-- ==== Sys2Proof/Word.lean ====
section
/-! DEFINITION. The fixed widths of the block (00_scope.md R7, R9): message elements are 8 bits, the
CRC-16 register 16 bits, the CRC-32 register and the ports ARG, LEN, RES 32 bits, and each lookup
table has 256 entries of its family's register width. Every value is unsigned and wraps (R11), which
is what `BitVec` arithmetic does. -/

namespace Sys2Proof

/-- A message element, or a command word (R7, R9). -/
abbrev Byte := BitVec 8

/-- A value of the CRC-16 family (R7). -/
abbrev Half := BitVec 16

/-- A value of the CRC-32 family, an operand or a result (R7, R9). -/
abbrev Word := BitVec 32

/-- The register file T16: 256 entries of 16 bits (10_state.md R37). -/
abbrev Table16 := Vector Half 256

/-- The register file T32: 256 entries of 32 bits (10_state.md R38). -/
abbrev Table32 := Vector Word 256

end Sys2Proof
end

