-- ==== Sys2Proof/Syntax.lean ====
section
/-! DEFINITION. The command set: one constructor per row of spec/opcode_table.json (30_encoding.md
R74). A command word has no variable field (R70, R71): the operands are the ports ARG and LEN, which
are state, and the message is MSG, so no constructor carries an operand. -/

namespace Sys2Proof

/-- The ten commands of the block (R74). -/
inductive Instr where
  /-- CRC16.BIT: CRC-16 reflected bit engine (40_crc16.md R91). -/
  | crc16Bit
  /-- CRC16.TBL: CRC-16 table-driven engine (40_crc16.md R95). -/
  | crc16Tbl
  /-- T16.BUILD: construction of T16 (40_crc16.md R93). -/
  | t16Build
  /-- REV8: reversal of the 8 bits of ARG[7:0] (41_bitrev.md R112). -/
  | rev8
  /-- CRC32.REF: CRC-32 reflected bit engine (42_crc32_bit.md R128). -/
  | crc32Ref
  /-- CRC32.TBL: CRC-32 table-driven engine (43_crc32_table.md R143). -/
  | crc32Tbl
  /-- T32.BUILD: construction of T32 (43_crc32_table.md R141). -/
  | t32Build
  /-- REV32: reversal of the 32 bits of ARG (41_bitrev.md R113). -/
  | rev32
  /-- CRC32.STD: CRC-32 length-bounded standard-form bit engine (42_crc32_bit.md R126). -/
  | crc32Std
  /-- CRC32.NT: CRC-32 null-terminated standard-form bit engine (42_crc32_bit.md R124). -/
  | crc32Nt
deriving DecidableEq, Repr

end Sys2Proof
end

