-- ==== Sys2Proof/WellFormed.lean ====
section
/-! DEFINITION. Which command words select a command (30_encoding.md R70, R72, R75), written from the
meaning of the fields Z, W and FN and not from the opcode map, so that the decoder of Decode.lean can
be held against it. An `Instr` has no operand, so every `Instr` is well formed; what can be ill formed
is a command word. -/

namespace Sys2Proof

/-- Field Z = CMD[7:4] is `0000` (R70). -/
def CommandWord.zClear (w : Byte) : Bool := w.toNat / 16 == 0

/-- Field FN = CMD[2:0] names a function: 0 to 3 in both families, 4 and 5 in the 32-bit family only
(W = CMD[3] = 1), 6 and 7 in neither (R72). -/
def CommandWord.functionDefined (w : Byte) : Bool :=
  let fn := w.toNat % 8
  let wide := w.toNat / 8 % 2 == 1
  decide (fn ≤ 3) || (wide && decide (fn ≤ 5))

/-- A command word that selects a command: every other value is reserved (R75). -/
def CommandWord.wellFormed (w : Byte) : Bool :=
  CommandWord.zClear w && CommandWord.functionDefined w

/-- No command has an operand inside its word (R71), so there is nothing to check in an `Instr`. -/
def Instr.wellFormed (i : Instr) : Bool :=
  match i with
  | .crc16Bit => true
  | .crc16Tbl => true
  | .t16Build => true
  | .rev8 => true
  | .crc32Ref => true
  | .crc32Tbl => true
  | .t32Build => true
  | .rev32 => true
  | .crc32Std => true
  | .crc32Nt => true

end Sys2Proof
end

