-- ==== Sys2Proof/Decode.lean ====
section
/-! DEFINITION. The decoding procedure of 30_encoding.md R73, total on the 256 values of CMD, over the
opcode map of R74; and the encoder, which assembles a word from the fields Z, W and FN (R70, R72). -/

namespace Sys2Proof

/-- One row of the opcode map: a word selects the row when it equals `value` under `mask` (R74). -/
structure OpcodeRow where
  value : Byte
  mask : Byte
  instr : Instr
deriving DecidableEq, Repr

/-- The opcode map: "Every row's match value is its CMD value and its mask is 0xFF" (R74). -/
def opcodeTable : List OpcodeRow :=
  [ ⟨0x00#8, 0xFF#8, .crc16Bit⟩,
    ⟨0x01#8, 0xFF#8, .crc16Tbl⟩,
    ⟨0x02#8, 0xFF#8, .t16Build⟩,
    ⟨0x03#8, 0xFF#8, .rev8⟩,
    ⟨0x08#8, 0xFF#8, .crc32Ref⟩,
    ⟨0x09#8, 0xFF#8, .crc32Tbl⟩,
    ⟨0x0A#8, 0xFF#8, .t32Build⟩,
    ⟨0x0B#8, 0xFF#8, .rev32⟩,
    ⟨0x0C#8, 0xFF#8, .crc32Std⟩,
    ⟨0x0D#8, 0xFF#8, .crc32Nt⟩ ]

/-- The word selects the row. -/
def OpcodeRow.selects (w : Byte) (row : OpcodeRow) : Bool := w &&& row.mask == row.value

/-- Why a command word is reserved (R73 (1) and (2)). -/
inductive DecodeError where
  /-- CMD[7:4] is not 0 (R73 (1)). -/
  | zFieldNonzero
  /-- CMD[7:4] is 0 and no row of the opcode map has this operation code (R73 (2)). -/
  | noSuchOperation
deriving DecidableEq, Repr

/-- The decoding procedure: "It reads CMD only" (R73). -/
def decode (w : Byte) : Except DecodeError Instr :=
  if w.extractLsb' 4 4 ≠ 0#4 then .error .zFieldNonzero
  else
    match opcodeTable.find? (OpcodeRow.selects w) with
    | some row => .ok row.instr
    | none => .error .noSuchOperation

/-- Field W of a command: 1 for the 32-bit CRC family and the 32-bit reversal (R70). -/
def Instr.wField (i : Instr) : BitVec 1 :=
  match i with
  | .crc16Bit | .crc16Tbl | .t16Build | .rev8 => 0#1
  | .crc32Ref | .crc32Tbl | .t32Build | .rev32 | .crc32Std | .crc32Nt => 1#1

/-- Field FN of a command (R72): 0 reflected bit engine, 1 table-driven engine, 2 table build, 3 bit
reversal, 4 length-bounded standard-form engine, 5 null-terminated standard-form engine. -/
def Instr.fnField (i : Instr) : BitVec 3 :=
  match i with
  | .crc16Bit | .crc32Ref => 0#3
  | .crc16Tbl | .crc32Tbl => 1#3
  | .t16Build | .t32Build => 2#3
  | .rev8 | .rev32 => 3#3
  | .crc32Std => 4#3
  | .crc32Nt => 5#3

/-- The command word of a command: `Z = 0000`, then W, then FN (R70). -/
def encode (i : Instr) : Byte := 0#4 ++ (i.wField ++ i.fnField)

/-- What the decoder reads from an instruction of `nbits` bits whose bits are `w`. A command word has
8 bits (R70), and there are no other forms (R76). -/
def decodeTableWord (nbits w : Nat) : Option Instr :=
  if nbits = 8 ∧ w < 256 then
    match decode (BitVec.ofNat 8 w) with
    | .ok i => some i
    | .error _ => none
  else none

end Sys2Proof
end

