-- ==== Sys2Proof/Config.lean ====
section
/-! DEFINITION. What the spec leaves to the implementation or to the caller, and the values it calls
unspecified: uninterpreted constants, so that no proof can lean on a value of one. -/

namespace Sys2Proof

/-- The capacity CAP of the message memory in bytes, an open parameter, `0 <= CAP <= 2^32 - 1`
(00_scope.md R8, 92_eei_decisions.md D7). It is read once, by the state after power-on; every
statement holds for every value of the state's field `cap`. Log entry 1. -/
opaque Config.cap : Word

/-- The byte the caller's memory holds at an index nothing in the model has written: MSG is total and
its content is the caller's (20_memory.md R50, 92_eei_decisions.md D25). Log entry 2. -/
opaque Config.callerByte : Nat → Byte

/-- The value of R16 after the fault numbered `n`: "the working registers and counters hold
unspecified values" (60_exceptions.md R160). Log entry 3, as the five constants below. -/
opaque Config.freeR16 : Nat → Half

/-- The value of R32 after the fault numbered `n` (R160). -/
opaque Config.freeR32 : Nat → Word

/-- The value of B32 after the fault numbered `n` (R160). -/
opaque Config.freeB32 : Nat → Word

/-- The value of IDX after the fault numbered `n` (R160). -/
opaque Config.freeIdx : Nat → Word

/-- The value of RND after the fault numbered `n` (R160). -/
opaque Config.freeRnd : Nat → BitVec 4

/-- The value of TIDX after the fault numbered `n` (R160). -/
opaque Config.freeTidx : Nat → BitVec 9

end Sys2Proof
end

