-- ==== Sys2Proof/Machine/State.lean ====
section
/-! DEFINITION. Everything the spec gives the block as state (10_state.md, its summary table), as plain
data; the reasons the model stops; and the state after power-on (70_reset_and_hazards.md R180). -/

namespace Sys2Proof.Machine

/-- Where the running command stands between two of its sequencing steps (10_state.md R26, R27). The
counters IDX, RND and TIDX hold the position itself; the phase says which loop is running. -/
inductive Phase where
  /-- Accepted, nothing done yet: the operand check, or a reversal's one step, comes next. -/
  | start
  /-- A table build: RND rounds of entry TIDX are done. -/
  | fill
  /-- Between two message bytes: byte IDX comes next. -/
  | bytes
  /-- Inside a message byte of a bit engine: RND rounds of byte IDX are done. -/
  | rounds
deriving DecidableEq, Repr

/-- The block, its ports, and the caller's message memory. -/
structure State where
  /-- The caller is presenting a command at the port (R30, R36): the model's own form of an issue, log
  entry 10. -/
  presented : Bool
  /-- Input port CMD, the command word (R30). -/
  cmd : Byte
  /-- Input port ARG (R31). -/
  arg : Word
  /-- Input port LEN, unsigned (R32). -/
  len : Word
  /-- CMD as sampled at the last acceptance (R30: "CMD is sampled once, at acceptance"; log entry 10). -/
  runCmd : Byte
  /-- ARG as sampled at the last acceptance (R31). -/
  runArg : Word
  /-- LEN as sampled at the last acceptance (R32). -/
  runLen : Word
  /-- Which loop of the running command is at work; it means something only while BUSY = 1 (log entry
  5). -/
  phase : Phase
  /-- R16, the CRC register of the CRC-16 family (R20). -/
  r16 : Half
  /-- R32, the CRC register of the CRC-32 family (R21). -/
  r32 : Word
  /-- B32, the byte shift word of CRC32.NT (R22). -/
  b32 : Word
  /-- IDX, the index of the message byte being processed (R26). -/
  idx : Word
  /-- RND, the number of rounds done, 0 to 8 (R26). -/
  rnd : BitVec 4
  /-- TIDX, the table entry being built, 0 to 256 (R26). -/
  tidx : BitVec 9
  /-- STAT[0], BUSY: a command is running (R34). -/
  busy : Bool
  /-- STAT[1], T16V: every entry of T16 holds its value (R28, R34). -/
  t16v : Bool
  /-- STAT[2], T32V: every entry of T32 holds its value (R28, R34). -/
  t32v : Bool
  /-- STAT[3], RV: RES holds the result of the last accepted command (R34). -/
  rv : Bool
  /-- STAT[5:4], ERR: the fault code of the last accepted command (R34). -/
  err : BitVec 2
  /-- Output register RES (R33); the caller reads it through `readRes`. -/
  res : Word
  /-- The register file T16 (R37). -/
  t16 : Table16
  /-- The register file T32 (R38). -/
  t32 : Table32
  /-- MSG: the bytes the caller has written, by index, in canonical form (R41, 20_memory.md R50). -/
  msg : List Host.Cell
  /-- CAP, the capacity of MSG in bytes (00_scope.md R8): a parameter, which no event changes. -/
  cap : Word
  /-- The model's own: how many faults have drawn unspecified values (log entry 3). -/
  draws : Nat
deriving DecidableEq, Repr

/-- Why the model stops. The three faults of 60_exceptions.md R155 are none of these: they are next
states, with ERR written. -/
inductive Fault where
  /-- Raised by `memRead` and by the caller's write: the index is not below CAP, so no such byte
  exists (20_memory.md R50, R58; log entry 15). Safe. No step from a state in `Inv` raises it. -/
  | messageIndexOutOfRange
  /-- Raised by a sequencing step in a BUSY state whose phase is none of the sampled command's (10_state.md
  R27; log entry 15). Safe. No step from a state in `Inv` raises it. -/
  | sequenceBroken
deriving DecidableEq, Repr

/-- What the model gives no meaning to. -/
inductive Refusal where
  /-- Raised by `exec` for an instruction with no meaning yet. Safe. No arm raises it now. -/
  | notModelled (mnemonic : String)
  /-- Raised by `readRes` while RV = 0: RES has no value then (10_state.md R33,
  93_implementation_defined.md U6; log entry 13). Safe. -/
  | resultNotValid
  /-- Raised by the caller's write of MSG while BUSY = 1 (70_reset_and_hazards.md R187,
  93_implementation_defined.md U3; log entry 6). Safe: no claim is made of a caller that does it. -/
  | messageWriteWhileBusy
  /-- Raised by a script line that is not a line of the script syntax (30_encoding.md R77). Safe. -/
  | illFormedLine
deriving DecidableEq, Repr

/-- The state after power-on (70_reset_and_hazards.md R180). The spec gives STAT = 0x00; it calls
every other element unspecified, and the model puts 0 there (log entry 4, DESIGN CHOICE), a value no
command reads. The caller presents nothing, has written nothing, and CAP is the open parameter. -/
def State.reset : State where
  presented := false
  cmd := 0
  arg := 0
  len := 0
  runCmd := 0
  runArg := 0
  runLen := 0
  phase := .start
  r16 := 0
  r32 := 0
  b32 := 0
  idx := 0
  rnd := 0
  tidx := 0
  busy := false
  t16v := false
  t32v := false
  rv := false
  err := 0
  res := 0
  t16 := Vector.replicate 256 0
  t32 := Vector.replicate 256 0
  msg := []
  cap := Config.cap
  draws := 0

end Sys2Proof.Machine
end

