-- ==== Sys2Proof/Machine/Flags.lean ====
section
/-! DEFINITION. The status register (10_state.md R34) and the fault codes (60_exceptions.md R155). The
block has no condition codes (R29): its flags are the five fields of STAT. -/

namespace Sys2Proof.Machine

/-- The three faults of the block (60_exceptions.md R155). -/
inductive CmdFault where
  /-- The command word selects no command (R156). -/
  | illegalCommand
  /-- LEN > CAP (R157). -/
  | lengthExceedsBuffer
  /-- No byte of MSG[0 .. CAP-1] is 0x00 (R158). -/
  | missingTerminator
deriving DecidableEq, Repr

/-- The code written to STAT.ERR; code 0 means no fault (R155). -/
def CmdFault.code (f : CmdFault) : BitVec 2 :=
  match f with
  | .illegalCommand => 1#2
  | .lengthExceedsBuffer => 2#2
  | .missingTerminator => 3#2

/-- STAT as the caller reads it: bit 0 BUSY, 1 T16V, 2 T32V, 3 RV, bits 5:4 ERR, bits 7:6 read 0. The
flags T16V and T32V are these bits themselves, "not copies" (R34): each has one home in `State`. -/
def State.stat (s : State) : Byte :=
  0#2 ++ (s.err ++ (BitVec.ofBool s.rv ++ (BitVec.ofBool s.t32v ++
    (BitVec.ofBool s.t16v ++ BitVec.ofBool s.busy))))

/-- The end of a T16 build: T16V <- 1 (R28). -/
def State.valid16 (s : State) : State := { s with t16v := true }

/-- The end of a T32 build: T32V <- 1 (R28). -/
def State.valid32 (s : State) : State := { s with t32v := true }

end Sys2Proof.Machine
end

