-- ==== Sys2Proof/Machine/Rounds.lean ====
section
/-! DEFINITION. The pure functions of the engines: the rounds, the bit reversals, the placement of a
byte, the per-byte steps and the contents of the two lookup tables (00_scope.md section 6). -/

namespace Sys2Proof.Machine

/-- The reflected polynomial constant of the CRC-16 profile (00_scope.md R3). -/
def poly16 : Half := 0xA001#16

/-- The polynomial of the CRC-32 profile (R3). -/
def poly32 : Word := 0x04C11DB7#32

/-- The reflected polynomial constant of the CRC-32 profile (R3). -/
def polyReflected32 : Word := 0xEDB88320#32

/-- The initial register of a CRC-16 checksum (R3, 40_crc16.md R91). -/
def init16 : Half := 0xFFFF#16

/-- The initial register of a CRC-32 checksum (R3, 42_crc32_bit.md R126). -/
def init32 : Word := 0xFFFFFFFF#32

/-- `round16`, one round of the CRC-16 reflected shift loop (40_crc16.md R90). -/
def round16 (r : Half) : Half :=
  if r.getLsbD 0 then (r >>> 1) ^^^ poly16 else r >>> 1

/-- `round32s`, one round of the standard-form shift loop (42_crc32_bit.md R120). -/
def round32s (r : Word) : Word :=
  if r.getLsbD 31 then (r <<< 1) ^^^ poly32 else r <<< 1

/-- `round32r`, one round of the CRC-32 reflected shift loop (42_crc32_bit.md R122). -/
def round32r (r : Word) : Word :=
  if r.getLsbD 0 then (r >>> 1) ^^^ polyReflected32 else r >>> 1

/-- `roundnt`, one round of the null-terminated engine on the register and the byte shift word
(42_crc32_bit.md R123). -/
def roundnt (p : Word × Word) : Word × Word :=
  (if (p.1 ^^^ p.2).getLsbD 31 then (p.1 <<< 1) ^^^ poly32 else p.1 <<< 1, p.2 <<< 1)

/-- `rev8`: bit `i` of the result is bit `7 - i` of `v` (41_bitrev.md R110). -/
def rev8 (v : Byte) : Byte := v.reverse

/-- `rev32`: bit `i` of the result is bit `31 - i` of `v` (41_bitrev.md R111). -/
def rev32 (v : Word) : Word := v.reverse

/-- `place`: the bit-reversed byte in bits 31:24 (42_crc32_bit.md R121). -/
def place (b : Byte) : Word := (rev8 b).setWidth 32 <<< 24

/-- Absorb of the CRC-16 bit engine: bits 7:0 change (40_crc16.md R91, 00_scope.md R13). -/
def absorb16 (r : Half) (b : Byte) : Half := r ^^^ b.setWidth 16

/-- Absorb of the standard-form engine: bits 31:24 change (42_crc32_bit.md R126). -/
def absorb32s (r : Word) (b : Byte) : Word := r ^^^ place b

/-- Absorb of the CRC-32 reflected engine: bits 7:0 change (42_crc32_bit.md R128). -/
def absorb32r (r : Word) (b : Byte) : Word := r ^^^ b.setWidth 32

/-- One byte of CRC16.BIT: absorb and eight rounds (40_crc16.md R91). -/
def byte16 (r : Half) (b : Byte) : Half := round16^[8] (absorb16 r b)

/-- One byte of CRC32.STD: absorb and eight rounds (42_crc32_bit.md R126). -/
def byte32s (r : Word) (b : Byte) : Word := round32s^[8] (absorb32s r b)

/-- One byte of CRC32.REF: absorb and eight rounds (42_crc32_bit.md R128). -/
def byte32r (r : Word) (b : Byte) : Word := round32r^[8] (absorb32r r b)

/-- One byte of CRC32.NT: B32 takes the placed byte, then eight rounds of the pair (42_crc32_bit.md
R124). The value B32 had before is not used. -/
def byteNt (p : Word × Word) (b : Byte) : Word × Word := roundnt^[8] (p.1, place b)

/-- The register a T16 build starts an entry from, `zext_16(TIDX[7:0])` (40_crc16.md R93). -/
def seed16 (tidx : BitVec 9) : Half := (tidx.setWidth 8).setWidth 16

/-- The register a T32 build starts an entry from, `zext_32(TIDX[7:0]) << 24` (43_crc32_table.md
R141): the byte as it is, not reversed. -/
def seed32 (tidx : BitVec 9) : Word := (tidx.setWidth 8).setWidth 32 <<< 24

/-- Entry `i` of a valid T16 (40_crc16.md R92). -/
def entry16 (i : Nat) : Half := round16^[8] (seed16 (BitVec.ofNat 9 i))

/-- Entry `i` of a valid T32 (43_crc32_table.md R140). -/
def entry32 (i : Nat) : Word := round32s^[8] (seed32 (BitVec.ofNat 9 i))

/-- The content of a valid T16, a constant of the design (40_crc16.md R92). -/
def table16 : Table16 := Vector.ofFn fun i => entry16 i

/-- The content of a valid T32, a constant of the design (43_crc32_table.md R140). -/
def table32 : Table32 := Vector.ofFn fun i => entry32 i

/-- The index `step16t` reads T16 at: the byte XOR the register's low byte (40_crc16.md R94). -/
def index16 (r : Half) (b : Byte) : Byte := b ^^^ r.setWidth 8

/-- `step16t`, the per-byte update of the CRC-16 table engine (40_crc16.md R94). -/
def step16t (t : Table16) (r : Half) (b : Byte) : Half :=
  (r >>> 8) ^^^ t[(index16 r b).toNat]

/-- The index `step32t` reads T32 at, `(r xor place(b)) >> 24` (43_crc32_table.md R142). -/
def index32 (r : Word) (b : Byte) : Byte := ((r ^^^ place b) >>> 24).setWidth 8

/-- `step32t`, the per-byte update of the CRC-32 table engine: the byte enters once, in the index
(43_crc32_table.md R142, 90_conflicts.md C2). -/
def step32t (t : Table32) (r : Word) (b : Byte) : Word :=
  (r <<< 8) ^^^ t[(index32 r b).toNat]

/-- The final step of the standard-form engines, `rev32(not_32(R32))` (42_crc32_bit.md R124, R126;
43_crc32_table.md R143). -/
def finalStandard (r : Word) : Word := rev32 (~~~r)

/-- The final step of the reflected engine, `not_32(R32)` (42_crc32_bit.md R128). -/
def finalReflected (r : Word) : Word := ~~~r

end Sys2Proof.Machine
end

