-- ==== Sys2Proof/Machine/Ops.lean ====
section
/-! DEFINITION. The named operations the meanings are written with: the message memory, the writes of
the working registers and tables, acceptance, the three ways a command ends (10_state.md R35), fault
entry (60_exceptions.md R160), and the reset event (70_reset_and_hazards.md R181). -/

namespace Sys2Proof.Machine

/-! ### The message memory as a list of cells -/

/-- The canonical form: indexes strictly rising. An unlisted index holds no byte the model knows, so no
entry can repeat what an unlisted index reads as, and equal memories are equal lists. -/
abbrev Memory.wf (m : List Host.Cell) : Prop := m.Pairwise fun c d => c.1 < d.1

/-- The byte written at an index, if one was. -/
def Memory.get? (m : List Host.Cell) (a : Nat) : Option Byte :=
  match m with
  | [] => none
  | c :: rest => if c.1 = a then some c.2 else Memory.get? rest a

/-- The memory after the byte `b` is written at index `a`. -/
def Memory.set (m : List Host.Cell) (a : Nat) (b : Byte) : List Host.Cell :=
  match m with
  | [] => [(a, b)]
  | c :: rest =>
    if a < c.1 then (a, b) :: c :: rest
    else if a = c.1 then (a, b) :: rest
    else c :: Memory.set rest a b

/-- MSG[a]: the byte the caller wrote last, else the caller's own unknown byte (20_memory.md R50). -/
def State.msgByte (s : State) (a : Nat) : Byte := (Memory.get? s.msg a).getD (Config.callerByte a)

/-- `MemRead(a, 1)`, for `0 <= a < CAP`; no other byte exists (20_memory.md R50). -/
def memRead (s : State) (a : Nat) : Except Fault Byte :=
  if a < s.cap.toNat then .ok (s.msgByte a) else .error .messageIndexOutOfRange

/-! ### Writes of the working state -/

/-- The running command goes on in the loop `p`. -/
def State.setPhase (s : State) (p : Phase) : State := { s with phase := p }

/-- Write of R16, IDX and RND by a CRC-16 checksum command (40_crc16.md R91, R95). -/
def State.work16 (s : State) (r : Half) (idx : Word) (rnd : BitVec 4) : State :=
  { s with r16 := r, idx := idx, rnd := rnd }

/-- Write of R32, IDX and RND by a CRC-32 checksum command (42_crc32_bit.md R126, R128). -/
def State.work32 (s : State) (r : Word) (idx : Word) (rnd : BitVec 4) : State :=
  { s with r32 := r, idx := idx, rnd := rnd }

/-- Write of R32, B32, IDX and RND by CRC32.NT (42_crc32_bit.md R124); `p` is (R32, B32). -/
def State.workNt (s : State) (p : Word × Word) (idx : Word) (rnd : BitVec 4) : State :=
  { s with r32 := p.1, b32 := p.2, idx := idx, rnd := rnd }

/-- Write of R16, RND and TIDX by a T16 build (40_crc16.md R93). -/
def State.build16 (s : State) (r : Half) (rnd : BitVec 4) (tidx : BitVec 9) : State :=
  { s with r16 := r, rnd := rnd, tidx := tidx }

/-- Write of R32, RND and TIDX by a T32 build (43_crc32_table.md R141). -/
def State.build32 (s : State) (r : Word) (rnd : BitVec 4) (tidx : BitVec 9) : State :=
  { s with r32 := r, rnd := rnd, tidx := tidx }

/-- `T16[i] <- v` (20_memory.md R53). -/
def State.writeT16 (s : State) (i : Nat) (v : Half) : State :=
  { s with t16 := s.t16.setIfInBounds i v }

/-- `T32[i] <- v` (20_memory.md R53). -/
def State.writeT32 (s : State) (i : Nat) (v : Word) : State :=
  { s with t32 := s.t32.setIfInBounds i v }

/-! ### Acceptance and the ends of a command -/

/-- Acceptance of the presented command: the three ports are sampled, the issue is taken, BUSY <- 1,
RV <- 0, ERR <- 0 (10_state.md R30, R35). -/
def State.accept (s : State) : State :=
  { s with
    presented := false, runCmd := s.cmd, runArg := s.arg, runLen := s.len, phase := .start,
    busy := true, rv := false, err := 0 }

/-- Completion with a value: RES <- v, RV <- 1, BUSY <- 0 (R35 (a)). -/
def State.completeWith (s : State) (v : Word) : State :=
  { s with res := v, rv := true, busy := false, phase := .start }

/-- Completion without a value: BUSY <- 0, RV stays 0, RES not written (R35 (b)). -/
def State.completeSilent (s : State) : State := { s with busy := false, phase := .start }

/-- Fault entry, `raise F` (60_exceptions.md R160): ERR <- the code, BUSY <- 0, RV stays 0, RES and the
tables as they are; "the working registers and counters hold unspecified values", which are free
values, a fresh set for each fault (log entry 3). No control goes anywhere: there is no handler. -/
def State.raiseFault (s : State) (f : CmdFault) : State :=
  { s with
    err := f.code, busy := false, phase := .start,
    r16 := Config.freeR16 s.draws, r32 := Config.freeR32 s.draws, b32 := Config.freeB32 s.draws,
    idx := Config.freeIdx s.draws, rnd := Config.freeRnd s.draws, tidx := Config.freeTidx s.draws,
    draws := s.draws + 1 }

/-- The capacity check, the first step of a length-bounded command: `LEN > CAP` as unsigned numbers
raises LengthExceedsBuffer before anything else (60_exceptions.md R157). -/
def lengthChecked (s : State) (body : State → State) : State :=
  if s.runLen.toNat ≤ s.cap.toNat then body s else s.raiseFault .lengthExceedsBuffer

/-- An accepted reserved command word: IllegalCommand, and nothing else happens (30_encoding.md R73,
R75; 60_exceptions.md R156). -/
def execReserved (s : State) : State := s.accept.raiseFault .illegalCommand

/-! ### Reset -/

/-- The reset event, an input outside the command port: the block takes the state of R180 whatever it
was doing, and a running command is abandoned (70_reset_and_hazards.md R181). The ports, MSG and CAP
are not the block's to reset, and the model's own count of draws goes on, so that no free value comes
twice (log entries 4, 11). -/
def State.applyReset (s : State) : State :=
  { State.reset with
    presented := s.presented, cmd := s.cmd, arg := s.arg, len := s.len,
    msg := s.msg, cap := s.cap, draws := s.draws }

end Sys2Proof.Machine
end

