-- ==== Sys2Proof/Machine/Operands.lean ====
section
/-! DEFINITION. Operand assembly (30_encoding.md R71): the sampled ports ARG and LEN, and the message
bytes a command reads, in the order it reads them (20_memory.md R52). -/

namespace Sys2Proof.Machine

/-- REV8's operand, ARG[7:0]; bits 31:8 are ignored "whatever they hold" (R71). -/
def State.argByte (s : State) : Byte := s.runArg.setWidth 8

/-- LEN as a count of bytes, "neither extended nor scaled" (R71). -/
def State.byteCount (s : State) : Nat := s.runLen.toNat

/-- The bytes MSG[0 .. n-1], ascending: the one addressing mode is effective address = IDX from 0
(20_memory.md R52). -/
def State.msgBytes (s : State) (n : Nat) : List Byte := (List.range n).map s.msgByte

/-- CRC32.NT's scan from index `a` over the `k` bytes left below CAP: the bytes before the first 0x00,
or none where there is no 0x00 (42_crc32_bit.md R124; 60_exceptions.md R158). -/
def State.scanNul (s : State) (k a : Nat) : Option (List Byte) :=
  match k with
  | 0 => none
  | k + 1 =>
    if s.msgByte a = 0#8 then some []
    else (s.scanNul k (a + 1)).map fun bs => s.msgByte a :: bs

/-- RND after `n` message bytes of a bit engine: 8 when a byte was finished, else not written
(10_state.md R26; log entry 9). -/
def rndAfter (n : Nat) (rnd : BitVec 4) : BitVec 4 := if n = 0 then rnd else 8#4

/-- The register of CRC16.BIT after the bytes `bs` (40_crc16.md R91). -/
def crc16Reg (bs : List Byte) : Half := bs.foldl byte16 init16

/-- The register of CRC16.TBL after the bytes `bs`, with the table `t` (40_crc16.md R95). -/
def crc16TblReg (t : Table16) (bs : List Byte) : Half := bs.foldl (step16t t) init16

/-- The register of CRC32.STD after the bytes `bs` (42_crc32_bit.md R126). -/
def crc32StdReg (bs : List Byte) : Word := bs.foldl byte32s init32

/-- The register of CRC32.REF after the bytes `bs` (42_crc32_bit.md R128). -/
def crc32RefReg (bs : List Byte) : Word := bs.foldl byte32r init32

/-- The register of CRC32.TBL after the bytes `bs`, with the table `t` (43_crc32_table.md R143). -/
def crc32TblReg (t : Table32) (bs : List Byte) : Word := bs.foldl (step32t t) init32

/-- R32 and B32 of CRC32.NT after the bytes `bs`, from the B32 it found (42_crc32_bit.md R124). -/
def crc32NtReg (b32 : Word) (bs : List Byte) : Word × Word := bs.foldl byteNt (init32, b32)

end Sys2Proof.Machine
end

