-- ==== Sys2Proof/Machine/BitRev.lean ====
section
/-! DEFINITION. The bit-reversal unit's two commands (41_bitrev.md): REV8 and REV32. -/

namespace Sys2Proof.Machine

/-- `RES <- zext_32(rev8(ARG[7:0]))` (41_bitrev.md R112). -/
def State.finishRev8 (s : State) : State := s.completeWith ((rev8 s.argByte).setWidth 32)

/-- `RES <- rev32(ARG)` (41_bitrev.md R113). -/
def State.finishRev32 (s : State) : State := s.completeWith (rev32 s.runArg)

/-- REV8 (41_bitrev.md R112). -/
def execRev8 (s : State) : Host.Outcome State Fault Refusal := .next s.accept.finishRev8

/-- REV32 (41_bitrev.md R113). -/
def execRev32 (s : State) : Host.Outcome State Fault Refusal := .next s.accept.finishRev32

end Sys2Proof.Machine
end

