-- ==== Sys2Proof/Machine/Crc16.lean ====
section
/-! DEFINITION. The CRC-16 family (40_crc16.md): CRC16.BIT, CRC16.TBL and T16.BUILD, each as one
transaction from acceptance to its end (10_state.md R35). -/

namespace Sys2Proof.Machine

/-- The body of T16.BUILD (40_crc16.md R93): all 256 entries written, then T16V <- 1. The working
registers are left as the last entry leaves them. -/
def State.fullBuild16 (s : State) : State :=
  ({ s with t16 := table16 }.build16 (entry16 255) 8 256).valid16

/-- "if T16V = 0: perform the body of T16.BUILD" (40_crc16.md R95). -/
def State.lazyBuild16 (s : State) : State := if s.t16v then s else s.fullBuild16

/-- The message loop of CRC16.BIT (40_crc16.md R91). -/
def State.runBit16 (s : State) : State :=
  s.work16 (crc16Reg (s.msgBytes s.byteCount)) s.runLen (rndAfter s.byteCount s.rnd)

/-- The message loop of CRC16.TBL (40_crc16.md R95): one T16 read a byte. -/
def State.runTbl16 (s : State) : State :=
  s.work16 (crc16TblReg s.t16 (s.msgBytes s.byteCount)) s.runLen s.rnd

/-- `RES <- zext_32(R16)`, the end of both CRC-16 checksum commands (40_crc16.md R91, R95). -/
def State.finish16 (s : State) : State := s.completeWith (s.r16.setWidth 32)

/-- CRC16.BIT (40_crc16.md R91). -/
def execCrc16Bit (s : State) : Host.Outcome State Fault Refusal :=
  .next (lengthChecked s.accept fun s => s.runBit16.finish16)

/-- CRC16.TBL (40_crc16.md R95): the capacity check first, then the table if it is not yet valid. -/
def execCrc16Tbl (s : State) : Host.Outcome State Fault Refusal :=
  .next (lengthChecked s.accept fun s => s.lazyBuild16.runTbl16.finish16)

/-- T16.BUILD (40_crc16.md R93): it builds whatever T16V is, and returns no value. -/
def execT16Build (s : State) : Host.Outcome State Fault Refusal :=
  .next s.accept.fullBuild16.completeSilent

end Sys2Proof.Machine
end

