-- ==== Sys2Proof/Machine/Crc32.lean ====
section
/-! DEFINITION. The CRC-32 family (42_crc32_bit.md, 43_crc32_table.md): CRC32.REF, CRC32.TBL,
T32.BUILD, CRC32.STD and CRC32.NT, each as one transaction from acceptance to its end (10_state.md
R35). -/

namespace Sys2Proof.Machine

/-- The body of T32.BUILD (43_crc32_table.md R141): all 256 entries written, then T32V <- 1. -/
def State.fullBuild32 (s : State) : State :=
  ({ s with t32 := table32 }.build32 (entry32 255) 8 256).valid32

/-- "if T32V = 0: perform the body of T32.BUILD" (43_crc32_table.md R143). -/
def State.lazyBuild32 (s : State) : State := if s.t32v then s else s.fullBuild32

/-- The message loop of CRC32.REF (42_crc32_bit.md R128). -/
def State.runRef32 (s : State) : State :=
  s.work32 (crc32RefReg (s.msgBytes s.byteCount)) s.runLen (rndAfter s.byteCount s.rnd)

/-- The message loop of CRC32.STD (42_crc32_bit.md R126). -/
def State.runStd32 (s : State) : State :=
  s.work32 (crc32StdReg (s.msgBytes s.byteCount)) s.runLen (rndAfter s.byteCount s.rnd)

/-- The message loop of CRC32.TBL (43_crc32_table.md R143): one T32 read a byte. -/
def State.runTbl32 (s : State) : State :=
  s.work32 (crc32TblReg s.t32 (s.msgBytes s.byteCount)) s.runLen s.rnd

/-- `RES <- rev32(not_32(R32))`, the end of the standard-form engines (42_crc32_bit.md R124, R126;
43_crc32_table.md R143). -/
def State.finishStandard (s : State) : State := s.completeWith (finalStandard s.r32)

/-- `RES <- not_32(R32)`, the end of the reflected engine (42_crc32_bit.md R128). -/
def State.finishReflected (s : State) : State := s.completeWith (finalReflected s.r32)

/-- The scan, the loop and the end of CRC32.NT (42_crc32_bit.md R124), or MissingTerminator where no
byte of MSG[0 .. CAP-1] is 0x00 (60_exceptions.md R158). -/
def State.runNt (s : State) : State :=
  match s.scanNul s.cap.toNat 0 with
  | none => s.raiseFault .missingTerminator
  | some bs =>
    (s.workNt (crc32NtReg s.b32 bs) (BitVec.ofNat 32 bs.length)
      (rndAfter bs.length s.rnd)).finishStandard

/-- CRC32.REF (42_crc32_bit.md R128). -/
def execCrc32Ref (s : State) : Host.Outcome State Fault Refusal :=
  .next (lengthChecked s.accept fun s => s.runRef32.finishReflected)

/-- CRC32.TBL (43_crc32_table.md R143): the capacity check first, then the table if it is not yet
valid. -/
def execCrc32Tbl (s : State) : Host.Outcome State Fault Refusal :=
  .next (lengthChecked s.accept fun s => s.lazyBuild32.runTbl32.finishStandard)

/-- T32.BUILD (43_crc32_table.md R141). -/
def execT32Build (s : State) : Host.Outcome State Fault Refusal :=
  .next s.accept.fullBuild32.completeSilent

/-- CRC32.STD (42_crc32_bit.md R126). -/
def execCrc32Std (s : State) : Host.Outcome State Fault Refusal :=
  .next (lengthChecked s.accept fun s => s.runStd32.finishStandard)

/-- CRC32.NT (42_crc32_bit.md R124): LEN and ARG are ignored. -/
def execCrc32Nt (s : State) : Host.Outcome State Fault Refusal := .next s.accept.runNt

end Sys2Proof.Machine
end

