-- ==== Sys2Proof/Machine/Dispatch.lean ====
section
/-! DEFINITION. One arm per command of the opcode map (30_encoding.md R74): the command, presented at
the ports of the state, from its acceptance to its end. -/

namespace Sys2Proof.Machine

def exec (i : Instr) (s : State) : Host.Outcome State Fault Refusal :=
  match i with
  | .crc16Bit => Sys2Proof.Machine.execCrc16Bit s
  | .crc16Tbl => Sys2Proof.Machine.execCrc16Tbl s
  | .t16Build => Sys2Proof.Machine.execT16Build s
  | .rev8 => Sys2Proof.Machine.execRev8 s
  | .crc32Ref => Sys2Proof.Machine.execCrc32Ref s
  | .crc32Tbl => Sys2Proof.Machine.execCrc32Tbl s
  | .t32Build => Sys2Proof.Machine.execT32Build s
  | .rev32 => Sys2Proof.Machine.execRev32 s
  | .crc32Std => Sys2Proof.Machine.execCrc32Std s
  | .crc32Nt => Sys2Proof.Machine.execCrc32Nt s

end Sys2Proof.Machine
end

