-- ==== Sys2Proof/Machine/Sequence.lean ====
section
/-! DEFINITION. The running command step by step (10_state.md R26, R27): one absorb, one round, one
table lookup or one table entry's round at a time, over the counters IDX, RND and TIDX. This is what a
BUSY block does, and what lets BUSY = 1, a flag rising inside a command (20_memory.md R57), a held
command (R36) and a reset in mid-command (70_reset_and_hazards.md R181) be states of the model. What counts
as one step is log entry 5. -/

namespace Sys2Proof.Machine

/-! ### Table builds (R27 (c)) -/

/-- The start of a T16 build: TIDX <- 0 and its entry's seed in R16 (40_crc16.md R93). -/
def State.startFill16 (s : State) : State := (s.build16 (seed16 0) 0 0).setPhase .fill

/-- The start of a T32 build (43_crc32_table.md R141). -/
def State.startFill32 (s : State) : State := (s.build32 (seed32 0) 0 0).setPhase .fill

/-- One round of a T16 build. The eighth round's value is written to entry TIDX; the next entry is
seeded, or, after the 256th, T16V <- 1 and `done` follows (40_crc16.md R93). -/
def State.fillStep16 (s : State) (done : State → State) : State :=
  let r := round16 s.r16
  if s.rnd.toNat + 1 < 8 then s.build16 r (s.rnd + 1) s.tidx
  else
    let w := (s.build16 r (s.rnd + 1) (s.tidx + 1)).writeT16 s.tidx.toNat r
    if s.tidx.toNat + 1 < 256 then w.build16 (seed16 w.tidx) 0 w.tidx else done w.valid16

/-- One round of a T32 build (43_crc32_table.md R141). -/
def State.fillStep32 (s : State) (done : State → State) : State :=
  let r := round32s s.r32
  if s.rnd.toNat + 1 < 8 then s.build32 r (s.rnd + 1) s.tidx
  else
    let w := (s.build32 r (s.rnd + 1) (s.tidx + 1)).writeT32 s.tidx.toNat r
    if s.tidx.toNat + 1 < 256 then w.build32 (seed32 w.tidx) 0 w.tidx else done w.valid32

/-! ### Message loops (R27 (a), (b)) -/

/-- The start of a CRC-16 message loop: R16 <- 0xFFFF, IDX <- 0 (40_crc16.md R91, R95). -/
def State.startBytes16 (s : State) : State := (s.work16 init16 0 s.rnd).setPhase .bytes

/-- The start of a CRC-32 message loop: R32 <- 0xFFFFFFFF, IDX <- 0 (42_crc32_bit.md R124, R126, R128;
43_crc32_table.md R143). -/
def State.startBytes32 (s : State) : State := (s.work32 init32 0 s.rnd).setPhase .bytes

/-- The byte at IDX is read and used, if there is such a byte. -/
def State.withByte (s : State) (use : Byte → State) : Host.Outcome State Fault Refusal :=
  match memRead s s.idx.toNat with
  | .ok b => .next (use b)
  | .error f => .fault f

/-- Between two bytes of a length-bounded command: `use` on byte IDX while IDX < LEN, else `finish`
(10_state.md R27 (a)). -/
def State.nextByte (s : State) (use : Byte → State) (finish : State) :
    Host.Outcome State Fault Refusal :=
  if s.idx.toNat < s.byteCount then s.withByte use else .next finish

/-- One round of a CRC-16 byte; the eighth ends the byte and IDX advances (10_state.md R26). -/
def State.roundStep16 (s : State) : State :=
  if s.rnd.toNat + 1 < 8 then s.work16 (round16 s.r16) s.idx (s.rnd + 1)
  else (s.work16 (round16 s.r16) (s.idx + 1) (s.rnd + 1)).setPhase .bytes

/-- One round `f` of a CRC-32 byte; the eighth ends the byte and IDX advances. -/
def State.roundStep32 (s : State) (f : Word → Word) : State :=
  if s.rnd.toNat + 1 < 8 then s.work32 (f s.r32) s.idx (s.rnd + 1)
  else (s.work32 (f s.r32) (s.idx + 1) (s.rnd + 1)).setPhase .bytes

/-- One round of a byte of CRC32.NT; the eighth ends the byte and IDX advances. -/
def State.roundStepNt (s : State) : State :=
  let p := roundnt (s.r32, s.b32)
  if s.rnd.toNat + 1 < 8 then s.workNt p s.idx (s.rnd + 1)
  else (s.workNt p (s.idx + 1) (s.rnd + 1)).setPhase .bytes

/-- Between two bytes of CRC32.NT: MissingTerminator at IDX = CAP, the end at a 0x00, else the byte is
placed in B32 (42_crc32_bit.md R124). -/
def State.nextByteNt (s : State) : Host.Outcome State Fault Refusal :=
  if s.cap.toNat ≤ s.idx.toNat then .next (s.raiseFault .missingTerminator)
  else s.withByte fun b =>
    if b = 0#8 then s.finishStandard
    else (s.workNt (s.r32, place b) s.idx 0).setPhase .rounds

/-! ### One step of each command -/

/-- One step of CRC16.BIT (40_crc16.md R91). -/
def tickCrc16Bit (s : State) : Host.Outcome State Fault Refusal :=
  match s.phase with
  | .start => .next (lengthChecked s State.startBytes16)
  | .bytes =>
    s.nextByte (fun b => (s.work16 (absorb16 s.r16 b) s.idx 0).setPhase .rounds) s.finish16
  | .rounds => .next s.roundStep16
  | .fill => .fault .sequenceBroken

/-- One step of CRC16.TBL (40_crc16.md R95). -/
def tickCrc16Tbl (s : State) : Host.Outcome State Fault Refusal :=
  match s.phase with
  | .start => .next (lengthChecked s fun s => if s.t16v then s.startBytes16 else s.startFill16)
  | .fill => .next (s.fillStep16 State.startBytes16)
  | .bytes =>
    s.nextByte (fun b => s.work16 (step16t s.t16 s.r16 b) (s.idx + 1) s.rnd) s.finish16
  | .rounds => .fault .sequenceBroken

/-- One step of T16.BUILD (40_crc16.md R93). The last round, the rise of T16V and the fall of BUSY are one
step, so no state of an explicit build shows T16V risen with BUSY = 1: the model's choice, where
20_memory.md R57 lets a poller see the flag first (log entry 5). -/
def tickT16Build (s : State) : Host.Outcome State Fault Refusal :=
  match s.phase with
  | .start => .next s.startFill16
  | .fill => .next (s.fillStep16 State.completeSilent)
  | .bytes => .fault .sequenceBroken
  | .rounds => .fault .sequenceBroken

/-- The one step of REV8 (41_bitrev.md R112). -/
def tickRev8 (s : State) : Host.Outcome State Fault Refusal :=
  match s.phase with
  | .start => .next s.finishRev8
  | .fill => .fault .sequenceBroken
  | .bytes => .fault .sequenceBroken
  | .rounds => .fault .sequenceBroken

/-- One step of CRC32.REF (42_crc32_bit.md R128). -/
def tickCrc32Ref (s : State) : Host.Outcome State Fault Refusal :=
  match s.phase with
  | .start => .next (lengthChecked s State.startBytes32)
  | .bytes =>
    s.nextByte (fun b => (s.work32 (absorb32r s.r32 b) s.idx 0).setPhase .rounds) s.finishReflected
  | .rounds => .next (s.roundStep32 round32r)
  | .fill => .fault .sequenceBroken

/-- One step of CRC32.TBL (43_crc32_table.md R143). -/
def tickCrc32Tbl (s : State) : Host.Outcome State Fault Refusal :=
  match s.phase with
  | .start => .next (lengthChecked s fun s => if s.t32v then s.startBytes32 else s.startFill32)
  | .fill => .next (s.fillStep32 State.startBytes32)
  | .bytes =>
    s.nextByte (fun b => s.work32 (step32t s.t32 s.r32 b) (s.idx + 1) s.rnd) s.finishStandard
  | .rounds => .fault .sequenceBroken

/-- One step of T32.BUILD (43_crc32_table.md R141); T32V rises and BUSY falls in its last step, as in
`tickT16Build` (log entry 5). -/
def tickT32Build (s : State) : Host.Outcome State Fault Refusal :=
  match s.phase with
  | .start => .next s.startFill32
  | .fill => .next (s.fillStep32 State.completeSilent)
  | .bytes => .fault .sequenceBroken
  | .rounds => .fault .sequenceBroken

/-- The one step of REV32 (41_bitrev.md R113). -/
def tickRev32 (s : State) : Host.Outcome State Fault Refusal :=
  match s.phase with
  | .start => .next s.finishRev32
  | .fill => .fault .sequenceBroken
  | .bytes => .fault .sequenceBroken
  | .rounds => .fault .sequenceBroken

/-- One step of CRC32.STD (42_crc32_bit.md R126). -/
def tickCrc32Std (s : State) : Host.Outcome State Fault Refusal :=
  match s.phase with
  | .start => .next (lengthChecked s State.startBytes32)
  | .bytes =>
    s.nextByte (fun b => (s.work32 (absorb32s s.r32 b) s.idx 0).setPhase .rounds) s.finishStandard
  | .rounds => .next (s.roundStep32 round32s)
  | .fill => .fault .sequenceBroken

/-- One step of CRC32.NT (42_crc32_bit.md R124). -/
def tickCrc32Nt (s : State) : Host.Outcome State Fault Refusal :=
  match s.phase with
  | .start => .next s.startBytes32
  | .bytes => s.nextByteNt
  | .rounds => .next s.roundStepNt
  | .fill => .fault .sequenceBroken

/-- One step of the command that was sampled at acceptance; a reserved word's one step is the fault
IllegalCommand (60_exceptions.md R156). The ports are not looked at: a command presented meanwhile is
held (10_state.md R36). -/
def tick (s : State) : Host.Outcome State Fault Refusal :=
  match decode s.runCmd with
  | .error _ => .next (s.raiseFault .illegalCommand)
  | .ok i =>
    match i with
    | .crc16Bit => tickCrc16Bit s
    | .crc16Tbl => tickCrc16Tbl s
    | .t16Build => tickT16Build s
    | .rev8 => tickRev8 s
    | .crc32Ref => tickCrc32Ref s
    | .crc32Tbl => tickCrc32Tbl s
    | .t32Build => tickT32Build s
    | .rev32 => tickRev32 s
    | .crc32Std => tickCrc32Std s
    | .crc32Nt => tickCrc32Nt s

/-- The block at the finest grain: a BUSY block takes one step of its command, an idle block accepts
what is presented (10_state.md R35, R36), and an idle block with nothing presented keeps everything
(60_exceptions.md R175). -/
def seqStep (s : State) : Host.Outcome State Fault Refusal :=
  if s.busy then tick s else if s.presented then .next s.accept else .next s

/-- `n` steps of the running command, stopping where BUSY falls. -/
def tickRun (n : Nat) (s : State) : Host.Outcome State Fault Refusal :=
  match n with
  | 0 => .next s
  | n + 1 =>
    if s.busy then
      match tick s with
      | .next t => tickRun n t
      | .fault f => .fault f
      | .refused r => .refused r
    else .next s

/-- An upper bound on the steps a running command has left, in any state (70_reset_and_hazards.md
R194: "after a bounded amount of work"). The bound is the model's, in its own sequencing steps (log entry
5): 256 x 8 rounds of a build and some to spare, and nine steps for each byte LEN or CAP allows. -/
def State.tickBound (s : State) : Nat := 2064 + 9 * (s.byteCount + s.cap.toNat)

/-- The work of a command counted as R194 counts it: one step for a reversal, one absorb and eight
rounds a byte for a bit engine, one lookup a byte and 256 x 8 rounds for a table engine whose table is
not valid, 256 x 8 rounds for a build, none for a length fault (70_reset_and_hazards.md R194). -/
def workSteps (i : Instr) (s : State) : Nat :=
  let checked (n : Nat) : Nat := if s.len.toNat ≤ s.cap.toNat then n else 0
  match i with
  | .crc16Bit => checked (9 * s.len.toNat)
  | .crc16Tbl => checked (s.len.toNat + if s.t16v then 0 else 256 * 8)
  | .t16Build => 256 * 8
  | .rev8 => 1
  | .crc32Ref => checked (9 * s.len.toNat)
  | .crc32Tbl => checked (s.len.toNat + if s.t32v then 0 else 256 * 8)
  | .t32Build => 256 * 8
  | .rev32 => 1
  | .crc32Std => checked (9 * s.len.toNat)
  | .crc32Nt =>
    match s.scanNul s.cap.toNat 0 with
    | some bs => 9 * bs.length
    | none => 9 * s.cap.toNat

end Sys2Proof.Machine
end

