-- ==== Sys2Proof/Machine/Step.lean ====
section
/-! DEFINITION. One step of the block. There is no program counter and no fetch (10_state.md R25,
20_memory.md R64): what runs is what the caller presents at the command port. -/

namespace Sys2Proof.Machine

/-- One step. An idle block runs the presented command from its acceptance to its end, as one
transaction (92_eei_decisions.md D1, 20_memory.md R57); a reserved word faults (30_encoding.md R73).
A BUSY block takes one step of the command it runs, and what is presented is held (10_state.md R36).
An idle block with nothing presented keeps everything (60_exceptions.md R175). Log entry 5. -/
def step (s : State) : Host.Outcome State Fault Refusal :=
  if s.busy then tick s
  else if s.presented then
    match decode s.cmd with
    | .ok i => exec i s
    | .error _ => .next (execReserved s)
  else .next s

/-- The state in which the caller presents the command word `w` (of `nbits` bits) with both operand
ports 0 and the block is idle, so that the next step runs exactly it (log entry 8). -/
def State.withFetchWord (s : State) (nbits w : Nat) : State :=
  { s with
    presented := true, cmd := BitVec.ofNat 8 (w % 2 ^ nbits), arg := 0, len := 0, busy := false }

end Sys2Proof.Machine
end

