-- ==== Sys2Proof/Machine/Caller.lean ====
section
/-! DEFINITION. What the world outside the block can do to it: drive the input ports, apply reset,
write its own message memory, and read RES, STAT and MSG (10_state.md R30 to R36, R41). -/

namespace Sys2Proof.Machine

/-- One action of the caller. -/
inductive Move where
  /-- Present a command: CMD, ARG and LEN together (R30). -/
  | issue (cmd : Byte) (arg len : Word)
  /-- Stop presenting; a held command is accepted only "if still presented" (R36). -/
  | withdraw
  /-- Write the byte `b` to MSG[a] (20_memory.md R51). -/
  | writeMsg (a : Nat) (b : Byte)
  /-- Apply reset (70_reset_and_hazards.md R181). -/
  | reset
deriving DecidableEq, Repr

/-- The caller presents a command. While BUSY = 1 it is held at the port and "changes nothing" (R36). -/
def State.issue (s : State) (cmd : Byte) (arg len : Word) : State :=
  { s with presented := true, cmd := cmd, arg := arg, len := len }

/-- The caller stops presenting (R36). -/
def State.withdraw (s : State) : State := { s with presented := false }

/-- MSG[a] <- b (20_memory.md R51, R61). -/
def State.putMsg (s : State) (a : Nat) (b : Byte) : State := { s with msg := Memory.set s.msg a b }

/-- The caller writes MSG, which it may do "when STAT.BUSY = 0" (20_memory.md R51). While BUSY = 1 the
host has no such move (93_implementation_defined.md U3, log entry 6), and at or above CAP there is no
byte (20_memory.md R58). -/
def callerWrite (s : State) (a : Nat) (b : Byte) : Host.Outcome State Fault Refusal :=
  if s.busy then .refused .messageWriteWhileBusy
  else if a < s.cap.toNat then .next (s.putMsg a b)
  else .fault .messageIndexOutOfRange

/-- The caller acts. -/
def callerMove (m : Move) (s : State) : Host.Outcome State Fault Refusal :=
  match m with
  | .issue c a l => .next (s.issue c a l)
  | .withdraw => .next s.withdraw
  | .writeMsg a b => callerWrite s a b
  | .reset => .next s.applyReset

/-- The caller reads STAT, at any time (R34). -/
def readStat (s : State) : Byte := s.stat

/-- The caller reads RES, which has a value only while RV = 1 (R33; 93_implementation_defined.md U6). -/
def readRes (s : State) : Except Refusal Word :=
  if s.rv then .ok s.res else .error .resultNotValid

/-- The caller reads its own MSG[a] (10_state.md, summary table). -/
def readMsg (s : State) (a : Nat) : Except Fault Byte := memRead s a

end Sys2Proof.Machine
end

