-- ==== Sys2Proof/Machine/Script.lean ====
section
/-! DEFINITION. The script language in which the spec writes commands (30_encoding.md R77, R78): its
lines, their text, the port values a line stands for, and what running a line does to the machine. -/

namespace Sys2Proof.Machine

/-- A line of a script. Numbers are the numbers written; `Line.wellFormed` says which are legal. -/
inductive Line where
  /-- A command that takes no operand: `T16.BUILD`, `T32.BUILD`, `CRC32.NT`; or one that takes the
  operand `x`, a length or an argument (R77). -/
  | command (i : Instr) (x : Nat)
  /-- `RAW <cmd> <arg> <len>`: the three port values as given (R77). -/
  | raw (cmd arg len : Nat)
  /-- The pseudo-command `CRC16 <len>` (R78). -/
  | crc16 (len : Nat)
  /-- The pseudo-command `CRC32 <len>` (R78). -/
  | crc32 (len : Nat)
  /-- The directive `.cap <n>` (R77). -/
  | cap (n : Nat)
  /-- The directive `.msg <b0> <b1> ...` (R77). -/
  | msg (bytes : List Nat)
  /-- The directive `.msgfill <from> <to> <byte>` (R77). -/
  | msgFill (lo hi b : Nat)
  /-- A line with nothing but white space or a comment; that it is a line, and does nothing, is the
  model's choice (log entry 7). -/
  | blank
deriving DecidableEq, Repr

/-- The operand port a command uses (30_encoding.md R74, column "uses"). -/
inductive OperandUse where
  | none
  | arg
  | len
deriving DecidableEq, Repr

/-- The operand port of each command (R71, R74). -/
def Instr.operandUse (i : Instr) : OperandUse :=
  match i with
  | .crc16Bit => .len
  | .crc16Tbl => .len
  | .t16Build => .none
  | .rev8 => .arg
  | .crc32Ref => .len
  | .crc32Tbl => .len
  | .t32Build => .none
  | .rev32 => .arg
  | .crc32Std => .len
  | .crc32Nt => .none

/-- A line whose numbers fit the ports, the memory elements and CAP (00_scope.md R8, R9). -/
def Line.wellFormed (l : Line) : Bool :=
  match l with
  | .command i x =>
    match Instr.operandUse i with
    | .none => x == 0
    | .arg => decide (x < 2 ^ 32)
    | .len => decide (x < 2 ^ 32)
  | .raw c a n => decide (c < 256) && decide (a < 2 ^ 32) && decide (n < 2 ^ 32)
  | .crc16 n => decide (n < 2 ^ 32)
  | .crc32 n => decide (n < 2 ^ 32)
  | .cap n => decide (n < 2 ^ 32)
  | .msg bs => !bs.isEmpty && bs.all fun b => decide (b < 256)
  | .msgFill lo hi b => decide (lo < 2 ^ 32) && decide (hi < 2 ^ 32) && decide (b < 256)
  | .blank => true

/-! ### The text of a line -/

/-- The mnemonics of R74. -/
def Instr.mnemonic (i : Instr) : String :=
  match i with
  | .crc16Bit => "CRC16.BIT"
  | .crc16Tbl => "CRC16.TBL"
  | .t16Build => "T16.BUILD"
  | .rev8 => "REV8"
  | .crc32Ref => "CRC32.REF"
  | .crc32Tbl => "CRC32.TBL"
  | .t32Build => "T32.BUILD"
  | .rev32 => "REV32"
  | .crc32Std => "CRC32.STD"
  | .crc32Nt => "CRC32.NT"

/-- Every command, in the order of the opcode map. -/
def Instr.all : List Instr :=
  [.crc16Bit, .crc16Tbl, .t16Build, .rev8, .crc32Ref, .crc32Tbl, .t32Build, .rev32, .crc32Std, .crc32Nt]

/-- The command with a given mnemonic. -/
def Instr.ofMnemonic (t : List Char) : Option Instr :=
  Instr.all.find? fun i => (Instr.mnemonic i).toList == t

/-- The signs of the digits, each at the position that is its value; a decimal number uses the first
ten. Both the reading and the printing of numbers look here. -/
def digitSigns : List Char :=
  ['0', '1', '2', '3', '4', '5', '6', '7', '8', '9', 'A', 'B', 'C', 'D', 'E', 'F']

/-- The position of `c` among `signs`. -/
def positionIn (signs : List Char) (c : Char) : Option Nat :=
  match signs with
  | [] => none
  | x :: rest => if x = c then some 0 else (positionIn rest c).map Nat.succ

/-- The value of a decimal digit. -/
def decDigit (c : Char) : Option Nat := positionIn (digitSigns.take 10) c

/-- The value of a hexadecimal digit, of either case. -/
def hexDigit (c : Char) : Option Nat := positionIn digitSigns c.toUpper

/-- The number the digits `t` write in base `base`, where `digit` gives a digit's value. -/
def digitsValue (base : Nat) (digit : Char → Option Nat) (t : List Char) : Option Nat :=
  t.foldlM (fun n c => (digit c).map fun d => base * n + d) 0

/-- A number with at least one digit, in hexadecimal without the mark `0x`. -/
def hexNumber (t : List Char) : Option Nat :=
  match t with
  | [] => none
  | c :: rest => digitsValue 16 hexDigit (c :: rest)

/-- An operand, "a decimal or `0x` hexadecimal number" (R77). -/
def number (t : List Char) : Option Nat :=
  match t with
  | '0' :: 'x' :: rest => hexNumber rest
  | [] => none
  | c :: rest => digitsValue 10 decDigit (c :: rest)

/-- A line's text up to the comment: "`;` starts a comment" (R77). -/
def beforeComment (t : List Char) : List Char := t.takeWhile fun c => c != ';'

/-- A character that separates words. -/
def isSpace (c : Char) : Bool := c == ' ' || c == '\t' || c == '\r'

/-- The words of a text; `word` holds, reversed, the letters of the word being read. -/
def wordsFrom (word : List Char) (t : List Char) : List (List Char) :=
  match t with
  | [] => if word.isEmpty then [] else [word.reverse]
  | c :: rest =>
    if isSpace c then
      if word.isEmpty then wordsFrom [] rest else word.reverse :: wordsFrom [] rest
    else wordsFrom (c :: word) rest

/-- The words of a text. -/
def words (t : List Char) : List (List Char) := wordsFrom [] t

/-- The line that a list of words stands for: its name and what must follow it. No words at all stand for
the blank line, the model's choice (log entry 7). -/
def Line.ofWords (ws : List (List Char)) : Option Line :=
  match ws with
  | [] => some .blank
  | name :: args =>
    if name == "RAW".toList then
      match args with
      | [c, a, n] => do some (.raw (← number c) (← number a) (← number n))
      | _ => none
    else if name == "CRC16".toList then
      match args with
      | [n] => (number n).map .crc16
      | _ => none
    else if name == "CRC32".toList then
      match args with
      | [n] => (number n).map .crc32
      | _ => none
    else if name == ".cap".toList then
      match args with
      | [n] => (number n).map .cap
      | _ => none
    else if name == ".msg".toList then (args.mapM hexNumber).map .msg
    else if name == ".msgfill".toList then
      match args with
      | [lo, hi, b] => do some (.msgFill (← number lo) (← number hi) (← hexNumber b))
      | _ => none
    else
      match Instr.ofMnemonic name with
      | none => none
      | some i =>
        match Instr.operandUse i, args with
        | .none, [] => some (.command i 0)
        | .arg, [x] => (number x).map (.command i)
        | .len, [x] => (number x).map (.command i)
        | _, _ => none

/-- The line a text stands for, if it is a well-formed line of the script syntax (R77). -/
def Line.parse (t : List Char) : Option Line :=
  match Line.ofWords (words (beforeComment t)) with
  | some l => if l.wellFormed then some l else none
  | none => none

/-- The hexadecimal digit of `d`, for `d < 16`. -/
def hexChar (d : Nat) : Char := digitSigns.getD d '0'

/-- The last `k` hexadecimal digits of `n`. -/
def hexDigits (k n : Nat) : List Char :=
  match k with
  | 0 => []
  | k + 1 => hexDigits k (n / 16) ++ [hexChar (n % 16)]

/-- The text of a port value or an index. -/
def portText (n : Nat) : List Char := '0' :: 'x' :: hexDigits 8 n

/-- The text of a byte, "in hexadecimal without `0x`" (R77). -/
def byteText (n : Nat) : List Char := hexDigits 2 n

/-- The words of a line's text. -/
def Line.toWords (l : Line) : List (List Char) :=
  match l with
  | .command i x =>
    match Instr.operandUse i with
    | .none => [(Instr.mnemonic i).toList]
    | .arg => [(Instr.mnemonic i).toList, portText x]
    | .len => [(Instr.mnemonic i).toList, portText x]
  | .raw c a n => ["RAW".toList, portText c, portText a, portText n]
  | .crc16 n => ["CRC16".toList, portText n]
  | .crc32 n => ["CRC32".toList, portText n]
  | .cap n => [".cap".toList, portText n]
  | .msg bs => ".msg".toList :: bs.map byteText
  | .msgFill lo hi b => [".msgfill".toList, portText lo, portText hi, byteText b]
  | .blank => []

/-- A line's text: its words, each after a space. -/
def Line.text (l : Line) : List Char := l.toWords.flatMap fun w => ' ' :: w

/-! ### What a line does -/

/-- The triple (CMD, ARG, LEN) presented for a line that issues a command: "An operand port the command
does not use is driven with 0" (R77); `CRC16` is `CRC16.BIT` and `CRC32` is `CRC32.STD` (R78). -/
def Line.ports (l : Line) : Option (Byte × Word × Word) :=
  match l with
  | .command i x =>
    match Instr.operandUse i with
    | .none => some (encode i, 0, 0)
    | .arg => some (encode i, BitVec.ofNat 32 x, 0)
    | .len => some (encode i, 0, BitVec.ofNat 32 x)
  | .raw c a n => some (BitVec.ofNat 8 c, BitVec.ofNat 32 a, BitVec.ofNat 32 n)
  | .crc16 n => some (encode .crc16Bit, 0, BitVec.ofNat 32 n)
  | .crc32 n => some (encode .crc32Std, 0, BitVec.ofNat 32 n)
  | .cap _ => none
  | .msg _ => none
  | .msgFill _ _ _ => none
  | .blank => none

/-- Steps while BUSY = 1, at most `n` of them: "wait for BUSY = 0" (R77). -/
def waitIdle (n : Nat) (s : State) : Host.Outcome State Fault Refusal := tickRun n s

/-- Wait for BUSY = 0, issue the command, wait for BUSY = 0 (R77). An idle block runs the command in
one step, so the second wait is already over. -/
def issueAndWait (s : State) (c : Byte) (a n : Word) : Host.Outcome State Fault Refusal :=
  match waitIdle s.tickBound s with
  | .next t => step (t.issue c a n)
  | .fault f => .fault f
  | .refused r => .refused r

/-- The caller writes the bytes `bs` from index `a` up. -/
def writeFrom (a : Nat) (bs : List Byte) (s : State) : Host.Outcome State Fault Refusal :=
  match bs with
  | [] => .next s
  | b :: rest =>
    match callerWrite s a b with
    | .next t => writeFrom (a + 1) rest t
    | .fault f => .fault f
    | .refused r => .refused r

/-- `.cap <n>` sets the parameter CAP for the script (R77). Message bytes beyond it do not exist, so those
written there before are dropped (log entry 12). -/
def State.withCap (s : State) (n : Word) : State :=
  { s with cap := n, msg := s.msg.filter fun c => decide (c.1 < n.toNat) }

/-- Running one line of a script. -/
def runLine (l : Line) (s : State) : Host.Outcome State Fault Refusal :=
  if l.wellFormed then
    match l.ports with
    | some (c, a, n) => issueAndWait s c a n
    | none =>
      match l with
      | .cap n => .next (s.withCap (BitVec.ofNat 32 n))
      | .msg bs => writeFrom 0 (bs.map (BitVec.ofNat 8)) s
      | .msgFill lo hi b => writeFrom lo (List.replicate (hi + 1 - lo) (BitVec.ofNat 8 b)) s
      | .command _ _ => .next s
      | .raw _ _ _ => .next s
      | .crc16 _ => .next s
      | .crc32 _ => .next s
      | .blank => .next s
  else .refused .illFormedLine

/-- Running a script, line by line, up to the first line that stops. -/
def runScript (ls : List Line) (s : State) : Host.Outcome State Fault Refusal :=
  match ls with
  | [] => .next s
  | l :: rest =>
    match runLine l s with
    | .next t => runScript rest t
    | .fault f => .fault f
    | .refused r => .refused r

end Sys2Proof.Machine
end

