-- ==== Sys2Proof/Safety.lean ====
section
/-! DEFINITION. What claims are stated in: the invariant of the block, its reachable states, what a
caller can see, and agreement of two states on what a command may look at. -/

namespace Sys2Proof.Machine

/-- A set valid flag means what 10_state.md R28 says it means: every entry holds its value. -/
def TablesValid (s : State) : Prop :=
  (s.t16v = true → ∀ i (h : i < 256), s.t16[i] = entry16 i) ∧
    (s.t32v = true → ∀ i (h : i < 256), s.t32[i] = entry32 i)

/-- The message memory is in canonical form and holds no byte at or above CAP (20_memory.md R58). -/
def MessageWf (s : State) : Prop :=
  Memory.wf s.msg ∧ ∀ c ∈ s.msg, c.1 < s.cap.toNat

/-- A build in mid-course (10_state.md R26, R27 (c)): entries below TIDX are written, and the working
register is RND rounds past the seed of entry TIDX. -/
def Filling16 (s : State) : Prop :=
  s.tidx.toNat < 256 ∧ s.rnd.toNat < 8 ∧ s.r16 = round16^[s.rnd.toNat] (seed16 s.tidx) ∧
    ∀ i (h : i < 256), i < s.tidx.toNat → s.t16[i] = entry16 i

/-- The same of a T32 build. -/
def Filling32 (s : State) : Prop :=
  s.tidx.toNat < 256 ∧ s.rnd.toNat < 8 ∧ s.r32 = round32s^[s.rnd.toNat] (seed32 s.tidx) ∧
    ∀ i (h : i < 256), i < s.tidx.toNat → s.t32[i] = entry32 i

/-- A length-bounded command between two bytes (10_state.md R27 (a)): LEN was checked, and IDX bytes
are done. -/
def BetweenBytes (s : State) : Prop :=
  s.byteCount ≤ s.cap.toNat ∧ s.idx.toNat ≤ s.byteCount

/-- A length-bounded bit engine inside byte IDX, fewer than 8 rounds done. -/
def InsideByte (s : State) : Prop :=
  s.byteCount ≤ s.cap.toNat ∧ s.idx.toNat < s.byteCount ∧ s.rnd.toNat < 8

/-- The bytes already processed, MSG[0 .. IDX-1]. -/
def State.doneBytes (s : State) : List Byte := s.msgBytes s.idx.toNat

/-- The byte being processed, MSG[IDX]. -/
def State.thisByte (s : State) : Byte := s.msgByte s.idx.toNat

/-- CRC32.NT has met no 0x00 in MSG[0 .. n-1]. -/
def NoNulBelow (s : State) (n : Nat) : Prop := ∀ a, a < n → s.msgByte a ≠ 0#8

/-- What the position of the running command says about its working registers, phase by phase, for each
command (10_state.md R26, R27, and the pseudocode of the command's rule). -/
def Position (i : Instr) (s : State) : Prop :=
  match i, s.phase with
  | _, .start => True
  | .crc16Bit, .bytes => BetweenBytes s ∧ s.r16 = crc16Reg s.doneBytes
  | .crc16Bit, .rounds =>
    InsideByte s ∧ s.r16 = round16^[s.rnd.toNat] (absorb16 (crc16Reg s.doneBytes) s.thisByte)
  | .crc16Tbl, .fill => s.byteCount ≤ s.cap.toNat ∧ Filling16 s
  | .crc16Tbl, .bytes =>
    BetweenBytes s ∧ s.t16v = true ∧ s.r16 = crc16TblReg s.t16 s.doneBytes
  | .t16Build, .fill => Filling16 s
  | .crc32Ref, .bytes => BetweenBytes s ∧ s.r32 = crc32RefReg s.doneBytes
  | .crc32Ref, .rounds =>
    InsideByte s ∧ s.r32 = round32r^[s.rnd.toNat] (absorb32r (crc32RefReg s.doneBytes) s.thisByte)
  | .crc32Tbl, .fill => s.byteCount ≤ s.cap.toNat ∧ Filling32 s
  | .crc32Tbl, .bytes =>
    BetweenBytes s ∧ s.t32v = true ∧ s.r32 = crc32TblReg s.t32 s.doneBytes
  | .t32Build, .fill => Filling32 s
  | .crc32Std, .bytes => BetweenBytes s ∧ s.r32 = crc32StdReg s.doneBytes
  | .crc32Std, .rounds =>
    InsideByte s ∧ s.r32 = round32s^[s.rnd.toNat] (absorb32s (crc32StdReg s.doneBytes) s.thisByte)
  | .crc32Nt, .bytes =>
    s.idx.toNat ≤ s.cap.toNat ∧ NoNulBelow s s.idx.toNat ∧
      s.r32 = (crc32NtReg 0 s.doneBytes).1
  | .crc32Nt, .rounds =>
    s.idx.toNat < s.cap.toNat ∧ NoNulBelow s (s.idx.toNat + 1) ∧ s.rnd.toNat < 8 ∧
      (s.r32, s.b32) = roundnt^[s.rnd.toNat] ((crc32NtReg 0 s.doneBytes).1, place s.thisByte)
  | _, _ => False

/-- A running command is where its rule says it can be; RV and ERR were cleared at its acceptance
(10_state.md R35) and nothing has set them since. -/
def Running (s : State) : Prop :=
  s.rv = false ∧ s.err = 0#2 ∧
    match decode s.runCmd with
    | .ok i => Position i s
    | .error _ => s.phase = .start

/-- The invariant of the block: what is true of it at every moment from reset on. -/
def Inv (s : State) : Prop :=
  TablesValid s ∧ MessageWf s ∧ (s.busy = true → Running s)

/-- The states the block can be in: from reset, by steps of either grain and by the caller's moves. -/
inductive Reachable : State → Prop where
  | reset : Reachable State.reset
  | step {s t : State} : Reachable s → Machine.step s = .next t → Reachable t
  | seqStep {s t : State} : Reachable s → Machine.seqStep s = .next t → Reachable t
  | move {s t : State} {m : Move} : Reachable s → callerMove m s = .next t → Reachable t

/-- A command that can raise LengthExceedsBuffer (60_exceptions.md R155). -/
def Instr.lengthBounded (i : Instr) : Bool :=
  match i with
  | .crc16Bit => true
  | .crc16Tbl => true
  | .t16Build => false
  | .rev8 => false
  | .crc32Ref => true
  | .crc32Tbl => true
  | .t32Build => false
  | .rev32 => false
  | .crc32Std => true
  | .crc32Nt => false

/-- The first 0x00 of the message is at index `z`, below CAP (42_crc32_bit.md R124, R125). -/
def FirstNul (s : State) (z : Nat) : Prop :=
  z < s.cap.toNat ∧ s.msgByte z = 0#8 ∧ NoNulBelow s z

/-- Two states a command cannot tell apart: the same ports and message bytes below CAP, the same valid
flags, and the same entries in a table whose flag is set. Everything else may differ: the working
registers, the counters, RES, RV, ERR, the sampled operands and the entries of a table not yet valid
(10_state.md R23, R40; 70_reset_and_hazards.md R180). -/
def SameInputs (s t : State) : Prop :=
  s.cmd = t.cmd ∧ s.arg = t.arg ∧ s.len = t.len ∧ s.cap = t.cap ∧
    (∀ a, a < s.cap.toNat → s.msgByte a = t.msgByte a) ∧
    s.t16v = t.t16v ∧ s.t32v = t.t32v ∧
    (s.t16v = true → s.t16 = t.t16) ∧ (s.t32v = true → s.t32 = t.t32)

/-- What the caller can see of a state: STAT, and RES while RV = 1 (10_state.md R33, R34). -/
def SameView (s t : State) : Prop := readStat s = readStat t ∧ readRes s = readRes t

/-- What a command leaves alone in any case: MSG, CAP, and the ports but for the issue it takes
(20_memory.md R51, 10_state.md R30). -/
def SameSurroundings (s t : State) : Prop :=
  t.msg = s.msg ∧ t.cap = s.cap ∧ t.cmd = s.cmd ∧ t.arg = s.arg ∧ t.len = s.len

/-- Every byte of MSG reads as before, listed or not (20_memory.md R51). -/
def SameBytes (s t : State) : Prop := ∀ a, t.msgByte a = s.msgByte a

/-- T32 and its flag are as they were. -/
def SameT32 (s t : State) : Prop := t.t32 = s.t32 ∧ t.t32v = s.t32v

/-- T16 and its flag are as they were. -/
def SameT16 (s t : State) : Prop := t.t16 = s.t16 ∧ t.t16v = s.t16v

/-- R16, R32, B32 and the three counters are as they were. -/
def SameWorking (s t : State) : Prop :=
  t.r16 = s.r16 ∧ t.r32 = s.r32 ∧ t.b32 = s.b32 ∧ t.idx = s.idx ∧ t.rnd = s.rnd ∧ t.tidx = s.tidx

/-- The command issued in `s` was taken from the port and sampled (10_state.md R30 to R32). -/
def Sampled (s t : State) : Prop :=
  t.presented = false ∧ t.runCmd = s.cmd ∧ t.runArg = s.arg ∧ t.runLen = s.len

/-- Completion with the value `v` (10_state.md R35 (a)). -/
def CompletedWith (v : Word) (t : State) : Prop :=
  t.res = v ∧ t.rv = true ∧ t.busy = false ∧ t.err = 0#2

/-- Completion without a value (10_state.md R35 (b)); `s` is the state the command was issued in. -/
def CompletedSilently (s t : State) : Prop :=
  t.res = s.res ∧ t.rv = false ∧ t.busy = false ∧ t.err = 0#2

/-- End in the fault `f` (10_state.md R35 (c), 60_exceptions.md R160): ERR is its code, BUSY and RV are
0, and RES, both tables, both flags, MSG and CAP are as they were. -/
def Faulted (f : CmdFault) (s t : State) : Prop :=
  t.err = f.code ∧ t.busy = false ∧ t.rv = false ∧ t.res = s.res ∧ SameT16 s t ∧ SameT32 s t ∧
    SameSurroundings s t

end Sys2Proof.Machine
end

