-- ==== Sys2Proof/Certificates/Slice0/Obligations.lean ====
section
/-! DEFINITION. The statements about the block, one for each rule or group of rules of the spec that
says what the machine does. -/

open Sys2Proof Sys2Proof.Machine

/-! ### Encoding and decoding -/

/-- The ten command words of 30_encoding.md R74, each decoded to its command. -/
def Obligations.SpecWordsDecodeToTheirCommands : Prop :=
  decode 0x00#8 = .ok .crc16Bit ∧ decode 0x01#8 = .ok .crc16Tbl ∧ decode 0x02#8 = .ok .t16Build ∧
    decode 0x03#8 = .ok .rev8 ∧ decode 0x08#8 = .ok .crc32Ref ∧ decode 0x09#8 = .ok .crc32Tbl ∧
    decode 0x0A#8 = .ok .t32Build ∧ decode 0x0B#8 = .ok .rev32 ∧ decode 0x0C#8 = .ok .crc32Std ∧
    decode 0x0D#8 = .ok .crc32Nt

/-- Decoding undoes encoding, and a word that decodes to a command is that command's own word (R70,
R72, R74): the opcode map and the field layout agree. -/
def Obligations.EncodeAndDecodeAgree : Prop :=
  (∀ i : Instr, decode (encode i) = .ok i) ∧ ∀ (w : Byte) (i : Instr), decode w = .ok i → w = encode i

/-- The words that decode to no command are the 246 of R75, and the field rules of R70 and R72 pick out
the same words. -/
def Obligations.ReservedWordsAreExactlyTheListedOnes : Prop :=
  ∀ w : Byte,
    ((∃ e, decode w = .error e) ↔
        (w = 0x04#8 ∨ w = 0x05#8 ∨ w = 0x06#8 ∨ w = 0x07#8 ∨ w = 0x0E#8 ∨ w = 0x0F#8 ∨ 0x10 ≤ w.toNat)) ∧
      (CommandWord.wellFormed w = true ↔ ∃ i, decode w = .ok i)

/-- The text of a well-formed script line, printed and parsed, is that line again, for every line and
every number its ports admit (R77). The printed form is the model's choice among the forms R77 allows
(log entry 7). -/
def Obligations.ScriptTextRoundTrip : Prop :=
  ∀ l : Line, l.wellFormed = true → Line.parse l.text = some l

/-- The pseudo-commands `CRC16 <len>` and `CRC32 <len>` present what `CRC16.BIT <len>` and
`CRC32.STD <len>` present, and do what those lines do (R78). -/
def Obligations.PseudoCommandsAreTheirExpansions : Prop :=
  ∀ n : Nat,
    (Line.crc16 n).ports = (Line.command .crc16Bit n).ports ∧
      (Line.crc32 n).ports = (Line.command .crc32Std n).ports ∧
      ∀ s : State,
        runLine (.crc16 n) s = runLine (.command .crc16Bit n) s ∧
          runLine (.crc32 n) s = runLine (.command .crc32Std n) s

/-- What each kind of script line does (R77). A line that issues a command waits for BUSY = 0 and is then
one step of the block with the line's three port values presented, an unused operand port at 0; `.msg`
puts byte k at MSG[k]; `.msgfill` writes every index from..to, both ends included, and none where from >
to; `.cap` sets CAP and keeps the bytes below it; all three touch nothing else and keep the memory's form.
The edges are the model's choice (log entries 6, 7, 12, 15): a write at or above CAP is a fault of the
model, a write while BUSY = 1 and an ill-formed line are refused, and a line with no words does nothing. -/
def Obligations.ScriptLineIssuesItsPorts : Prop :=
  (∀ (l : Line) (s : State) (c : Byte) (a n : Word),
    l.wellFormed = true → l.ports = some (c, a, n) →
      (s.busy = false → runLine l s = step (s.issue c a n)) ∧
        (∀ t, tickRun s.tickBound s = .next t → runLine l s = step (t.issue c a n)) ∧
        (∀ i x, l = .command i x → Instr.operandUse i ≠ .arg → a = 0#32) ∧
        (∀ i x, l = .command i x → Instr.operandUse i ≠ .len → n = 0#32)) ∧
    (∀ (bs : List Nat) (s : State), Line.wellFormed (.msg bs) = true →
      (s.busy = false → bs.length ≤ s.cap.toNat →
        ∃ t, runLine (.msg bs) s = .next t ∧ t = { s with msg := t.msg } ∧
          (∀ k (h : k < bs.length), t.msgByte k = BitVec.ofNat 8 bs[k]) ∧
          (∀ k, bs.length ≤ k → t.msgByte k = s.msgByte k) ∧ (MessageWf s → MessageWf t)) ∧
        (s.busy = false → s.cap.toNat < bs.length →
          runLine (.msg bs) s = .fault .messageIndexOutOfRange) ∧
        (s.busy = true → runLine (.msg bs) s = .refused .messageWriteWhileBusy)) ∧
    (∀ (lo hi b : Nat) (s : State), Line.wellFormed (.msgFill lo hi b) = true →
      (hi < lo → runLine (.msgFill lo hi b) s = .next s) ∧
        (s.busy = false → lo ≤ hi → hi < s.cap.toNat →
          ∃ t, runLine (.msgFill lo hi b) s = .next t ∧ t = { s with msg := t.msg } ∧
            (∀ k, lo ≤ k → k ≤ hi → t.msgByte k = BitVec.ofNat 8 b) ∧
            (∀ k, k < lo ∨ hi < k → t.msgByte k = s.msgByte k) ∧ (MessageWf s → MessageWf t)) ∧
        (s.busy = false → lo ≤ hi → s.cap.toNat ≤ hi →
          runLine (.msgFill lo hi b) s = .fault .messageIndexOutOfRange) ∧
        (s.busy = true → lo ≤ hi →
          runLine (.msgFill lo hi b) s = .refused .messageWriteWhileBusy)) ∧
    (∀ (n : Nat) (s : State), Line.wellFormed (.cap n) = true →
      ∃ t, runLine (.cap n) s = .next t ∧ t = { s with cap := t.cap, msg := t.msg } ∧
        t.cap.toNat = n ∧ (∀ k, k < n → t.msgByte k = s.msgByte k) ∧ (MessageWf s → MessageWf t)) ∧
    (∀ s : State, runLine .blank s = .next s) ∧
    ∀ (l : Line) (s : State), l.wellFormed = false → runLine l s = .refused .illFormedLine

/-! ### The step -/

/-- An idle block runs the presented command: its step is the command's meaning, which includes the
acceptance (10_state.md R30, R35, R36; 30_encoding.md R73). -/
def Obligations.StepRunsThePresentedCommand : Prop :=
  ∀ (s : State) (i : Instr),
    s.busy = false → s.presented = true → decode s.cmd = .ok i → step s = exec i s

/-- The 246 reserved words: accepted, they fault with code 1 whatever ARG, LEN, MSG and the tables are,
and change nothing else (R75, 60_exceptions.md R156). That the issue is taken from the port and the ports
are latched is the model's choice (log entry 10). -/
def Obligations.ReservedWordRaisesIllegalCommand : Prop :=
  ∀ s : State,
    s.busy = false → s.presented = true →
      (s.cmd = 0x04#8 ∨ s.cmd = 0x05#8 ∨ s.cmd = 0x06#8 ∨ s.cmd = 0x07#8 ∨ s.cmd = 0x0E#8 ∨
        s.cmd = 0x0F#8 ∨ 0x10 ≤ s.cmd.toNat) →
      ∃ t, step s = .next t ∧ Faulted .illegalCommand s t ∧ t.err = 1#2 ∧ Sampled s t

/-- Between commands: an idle block with nothing presented keeps everything, at either grain. Of T16,
T16V, T32, T32V, RES, RV and ERR 60_exceptions.md R175 says so; that the working registers and counters
keep their values too is the model's reading (log entry 9), and so are the idle step itself (log entries
8, 10) and the finer grain (log entry 5). -/
def Obligations.IdleBlockKeepsEverything : Prop :=
  ∀ s : State, s.busy = false → s.presented = false → step s = .next s ∧ seqStep s = .next s

/-- What is presented while BUSY = 1 is held: the step leaves the port as it is, and the same step is
taken whatever is presented, changed or withdrawn meanwhile (10_state.md R30, R36). -/
def Obligations.HeldCommandChangesNothing : Prop :=
  ∀ (s t : State) (c : Byte) (a n : Word),
    s.busy = true → step s = .next t →
      (t.presented = s.presented ∧ t.cmd = s.cmd ∧ t.arg = s.arg ∧ t.len = s.len) ∧
        step (s.issue c a n) = .next (t.issue c a n) ∧ step s.withdraw = .next t.withdraw

/-! ### The outcome of a command -/

/-- Acceptance sets BUSY and clears RV and ERR; then a command ends in exactly one of three ways:
with a value, without one (the builds), or in a fault; a reserved word in the fault IllegalCommand
(10_state.md R35). Acceptance as a step of its own is the model's choice (log entry 5), and so are the flag
that falls at it and the latches that hold the sampled ports (log entry 10). -/
def Obligations.EveryCommandEndsInOneOfThreeWays : Prop :=
  (∀ s : State, s.busy = false → s.presented = true →
      ∃ u, seqStep s = .next u ∧ u.busy = true ∧ u.rv = false ∧ u.err = 0#2 ∧ Sampled s u) ∧
    (∀ (s : State) (e : DecodeError), decode s.cmd = .error e →
      Faulted .illegalCommand s (execReserved s) ∧ Sampled s (execReserved s)) ∧
    ∀ (i : Instr) (s : State),
      ∃ t, exec i s = .next t ∧ Sampled s t ∧
        ((i ≠ .t16Build ∧ i ≠ .t32Build ∧ CompletedWith t.res t) ∨
          ((i = .t16Build ∨ i = .t32Build) ∧ CompletedSilently s t) ∨
          ∃ f, Faulted f s t)

/-- Fault entry: a command that ends with ERR not 0 has written ERR and nothing else a later command or
the caller can see (60_exceptions.md R160), and the fault is one its command can raise (R155). -/
def Obligations.FaultChangesOnlyTheErrorCode : Prop :=
  ∀ (i : Instr) (s t : State),
    exec i s = .next t → t.err ≠ 0#2 →
      t.busy = false ∧ t.rv = false ∧ t.res = s.res ∧ SameT16 s t ∧ SameT32 s t ∧
        SameSurroundings s t ∧ SameBytes s t ∧
        ((Instr.lengthBounded i = true ∧ t.err = 2#2) ∨ (i = .crc32Nt ∧ t.err = 3#2))

/-- The capacity check of the five length-bounded commands, by unsigned comparison and before any other
step: LEN > CAP faults with code 2 whatever the message, and every other LEN, 0 and CAP among them,
completes with a value (60_exceptions.md R157). -/
def Obligations.CapacityIsCheckedFirst : Prop :=
  ∀ (i : Instr) (s : State),
    Instr.lengthBounded i = true →
      (s.cap.toNat < s.len.toNat →
        ∃ t, exec i s = .next t ∧ Faulted .lengthExceedsBuffer s t ∧ t.err = 2#2 ∧
          ∀ m, exec i { s with msg := m } = .next { t with msg := m }) ∧
        (s.len.toNat ≤ s.cap.toNat → ∃ t, exec i s = .next t ∧ CompletedWith t.res t)

/-- CRC32.NT faults with code 3 exactly where no byte of MSG[0 .. CAP-1] is 0x00 (R158); with CAP = 0
it always does. -/
def Obligations.MissingTerminatorFaults : Prop :=
  ∀ s : State,
    (NoNulBelow s s.cap.toNat →
      ∃ t, exec .crc32Nt s = .next t ∧ Faulted .missingTerminator s t ∧ t.err = 3#2) ∧
      ∀ t, exec .crc32Nt s = .next t → t.err = 3#2 → NoNulBelow s s.cap.toNat

/-- ERR is not sticky: neither the last command's fault code nor its RV has any effect on the next
(60_exceptions.md R164). -/
def Obligations.EarlierOutcomeHasNoEffect : Prop :=
  ∀ (i : Instr) (s : State) (e : BitVec 2) (v : Bool), exec i { s with err := e, rv := v } = exec i s

/-! ### Results -/

/-- CRC16.BIT, CMD = 0x00 (40_crc16.md R91): the register starts at 0xFFFF, takes each byte in its low
half and eight rounds, and is the result; LEN > CAP faults; no table or flag is written. That R16 keeps
its last value after completion is the model's reading (log entry 9). -/
def Obligations.Crc16BitRunsTheShiftLoop : Prop :=
  decode 0x00#8 = .ok .crc16Bit ∧
  (∀ s : State, s.len.toNat ≤ s.cap.toNat →
      ∃ (reg : Nat → Half) (t : State),
        exec .crc16Bit s = .next t ∧ reg 0 = 0xFFFF#16 ∧
          (∀ k, k < s.len.toNat → reg (k + 1) = round16^[8] (reg k ^^^ (s.msgByte k).setWidth 16)) ∧
          CompletedWith ((reg s.len.toNat).setWidth 32) t ∧ t.r16 = reg s.len.toNat ∧
          SameT16 s t ∧ SameT32 s t) ∧
    ∀ s : State, s.cap.toNat < s.len.toNat →
      ∃ t, exec .crc16Bit s = .next t ∧ Faulted .lengthExceedsBuffer s t

/-- T16.BUILD, CMD = 0x02 (40_crc16.md R92, R93): whatever T16 and T16V were, every entry gets its value, the eight
rounds of its index, T16V is set, and no value is returned. -/
def Obligations.T16BuildWritesEveryEntry : Prop :=
  decode 0x02#8 = .ok .t16Build ∧
  ∀ s : State,
    ∃ t, exec .t16Build s = .next t ∧
      (∀ i (h : i < 256), t.t16[i] = round16^[8] (BitVec.ofNat 16 i)) ∧
      t.t16v = true ∧ CompletedSilently s t ∧ SameT32 s t

/-- CRC16.TBL, CMD = 0x01 (40_crc16.md R95): the table is built first if T16V was 0, also for LEN = 0,
and kept if it was 1; the register starts at 0xFFFF and each byte is one lookup at the byte XOR its low
half; LEN > CAP faults and builds nothing. That R16 keeps its last value after completion is the model's
reading (log entry 9). -/
def Obligations.Crc16TblLooksUpEachByte : Prop :=
  decode 0x01#8 = .ok .crc16Tbl ∧
  (∀ s : State, s.len.toNat ≤ s.cap.toNat →
      ∃ (reg : Nat → Half) (t : State),
        exec .crc16Tbl s = .next t ∧ t.t16v = true ∧ (s.t16v = true → t.t16 = s.t16) ∧
          (s.t16v = false → ∀ i (h : i < 256), t.t16[i] = round16^[8] (BitVec.ofNat 16 i)) ∧
          reg 0 = 0xFFFF#16 ∧
          (∀ k, k < s.len.toNat →
            reg (k + 1) = (reg k >>> 8) ^^^ t.t16[(s.msgByte k ^^^ (reg k).setWidth 8).toNat]) ∧
          CompletedWith ((reg s.len.toNat).setWidth 32) t ∧ t.r16 = reg s.len.toNat ∧
          SameT32 s t) ∧
    ∀ s : State, s.cap.toNat < s.len.toNat →
      ∃ t, exec .crc16Tbl s = .next t ∧ Faulted .lengthExceedsBuffer s t

/-- REV8, CMD = 0x03 (41_bitrev.md R112): bit i of RES is bit 7 - i of ARG for i below 8, and 0 above; nothing but
RES and STAT is written. -/
def Obligations.Rev8ReversesTheLowByteOfArg : Prop :=
  decode 0x03#8 = .ok .rev8 ∧
  ∀ s : State,
    ∃ t, exec .rev8 s = .next t ∧ CompletedWith t.res t ∧
      (∀ i, i < 8 → t.res.getLsbD i = s.arg.getLsbD (7 - i)) ∧
      (∀ i, 8 ≤ i → t.res.getLsbD i = false) ∧ SameWorking s t ∧ SameT16 s t ∧ SameT32 s t

/-- REV32, CMD = 0x0B (41_bitrev.md R113): bit i of RES is bit 31 - i of ARG; nothing but RES and STAT is written. -/
def Obligations.Rev32ReversesArg : Prop :=
  decode 0x0B#8 = .ok .rev32 ∧
  ∀ s : State,
    ∃ t, exec .rev32 s = .next t ∧ CompletedWith t.res t ∧
      (∀ i, i < 32 → t.res.getLsbD i = s.arg.getLsbD (31 - i)) ∧
      SameWorking s t ∧ SameT16 s t ∧ SameT32 s t

/-- CRC32.NT, CMD = 0x0D (42_crc32_bit.md R124): the bytes before the first 0x00 are processed, each by
eight rounds of the register beside the placed byte; the result is the reversed complement; where there
is no 0x00 below CAP it faults; no table or flag is written. That R32 keeps its last value after
completion is the model's reading (log entry 9). -/
def Obligations.Crc32NtRunsToTheTerminator : Prop :=
  decode 0x0D#8 = .ok .crc32Nt ∧
  (∀ (s : State) (z : Nat), FirstNul s z →
      ∃ (reg : Nat → Word) (t : State),
        exec .crc32Nt s = .next t ∧ reg 0 = 0xFFFFFFFF#32 ∧
          (∀ k, k < z → reg (k + 1) = (roundnt^[8] (reg k, place (s.msgByte k))).1) ∧
          CompletedWith (rev32 (~~~(reg z))) t ∧ t.r32 = reg z ∧
          SameT16 s t ∧ SameT32 s t) ∧
    ∀ s : State, NoNulBelow s s.cap.toNat →
      ∃ t, exec .crc32Nt s = .next t ∧ Faulted .missingTerminator s t

/-- CRC32.STD, CMD = 0x0C (42_crc32_bit.md R126): the register starts at all ones, takes each placed
byte and eight standard-form rounds; the result is the reversed complement; LEN > CAP faults; no table
or flag is written. That R32 keeps its last value after completion is the model's reading (log entry 9).
-/
def Obligations.Crc32StdRunsTheStandardLoop : Prop :=
  decode 0x0C#8 = .ok .crc32Std ∧
  (∀ s : State, s.len.toNat ≤ s.cap.toNat →
      ∃ (reg : Nat → Word) (t : State),
        exec .crc32Std s = .next t ∧ reg 0 = 0xFFFFFFFF#32 ∧
          (∀ k, k < s.len.toNat → reg (k + 1) = round32s^[8] (reg k ^^^ place (s.msgByte k))) ∧
          CompletedWith (rev32 (~~~(reg s.len.toNat))) t ∧ t.r32 = reg s.len.toNat ∧
          SameT16 s t ∧ SameT32 s t) ∧
    ∀ s : State, s.cap.toNat < s.len.toNat →
      ∃ t, exec .crc32Std s = .next t ∧ Faulted .lengthExceedsBuffer s t

/-- CRC32.REF, CMD = 0x08 (42_crc32_bit.md R128): the register starts at all ones, takes each byte in
its low eight bits and eight reflected rounds; the result is the complement; LEN > CAP faults; no table
or flag is written. That R32 keeps its last value after completion is the model's reading (log entry 9).
-/
def Obligations.Crc32RefRunsTheReflectedLoop : Prop :=
  decode 0x08#8 = .ok .crc32Ref ∧
  (∀ s : State, s.len.toNat ≤ s.cap.toNat →
      ∃ (reg : Nat → Word) (t : State),
        exec .crc32Ref s = .next t ∧ reg 0 = 0xFFFFFFFF#32 ∧
          (∀ k, k < s.len.toNat →
            reg (k + 1) = round32r^[8] (reg k ^^^ (s.msgByte k).setWidth 32)) ∧
          CompletedWith (~~~(reg s.len.toNat)) t ∧ t.r32 = reg s.len.toNat ∧
          SameT16 s t ∧ SameT32 s t) ∧
    ∀ s : State, s.cap.toNat < s.len.toNat →
      ∃ t, exec .crc32Ref s = .next t ∧ Faulted .lengthExceedsBuffer s t

/-- T32.BUILD, CMD = 0x0A (43_crc32_table.md R140, R141): whatever T32 and T32V were, every entry gets its value,
the eight standard-form rounds of its index in bits 31:24, T32V is set, and no value is returned. -/
def Obligations.T32BuildWritesEveryEntry : Prop :=
  decode 0x0A#8 = .ok .t32Build ∧
  ∀ s : State,
    ∃ t, exec .t32Build s = .next t ∧
      (∀ i (h : i < 256), t.t32[i] = round32s^[8] (BitVec.ofNat 32 i <<< 24)) ∧
      t.t32v = true ∧ CompletedSilently s t ∧ SameT16 s t

/-- CRC32.TBL, CMD = 0x09 (43_crc32_table.md R142, R143): the table is built first if T32V was 0, also
for LEN = 0, and kept if it was 1; the register starts at all ones and each byte is one lookup, at the
high byte of the register XOR the placed byte; the result is the reversed complement; LEN > CAP faults
and builds nothing. That R32 keeps its last value after completion is the model's reading (log entry 9).
-/
def Obligations.Crc32TblLooksUpEachByte : Prop :=
  decode 0x09#8 = .ok .crc32Tbl ∧
  (∀ s : State, s.len.toNat ≤ s.cap.toNat →
      ∃ (reg : Nat → Word) (t : State),
        exec .crc32Tbl s = .next t ∧ t.t32v = true ∧ (s.t32v = true → t.t32 = s.t32) ∧
          (s.t32v = false → ∀ i (h : i < 256), t.t32[i] = round32s^[8] (BitVec.ofNat 32 i <<< 24)) ∧
          reg 0 = 0xFFFFFFFF#32 ∧
          (∀ k, k < s.len.toNat →
            ∃ x : Byte, x.setWidth 32 = (reg k ^^^ place (s.msgByte k)) >>> 24 ∧
              reg (k + 1) = (reg k <<< 8) ^^^ t.t32[x.toNat]) ∧
          CompletedWith (rev32 (~~~(reg s.len.toNat))) t ∧ t.r32 = reg s.len.toNat ∧
          SameT16 s t) ∧
    ∀ s : State, s.cap.toNat < s.len.toNat →
      ∃ t, exec .crc32Tbl s = .next t ∧ Faulted .lengthExceedsBuffer s t

/-- Where the counters and B32 stand when a command has ended without a fault: IDX past the last byte
processed, RND at 8 if a byte was, TIDX at 256 after a build, B32 shifted out (10_state.md R22, R26). That
they keep this value between commands is the model's reading (log entry 9); no rule lets a command or the
caller see it. -/
def Obligations.CountersWhereACommandEnds : Prop :=
  ∀ (i : Instr) (s t : State), exec i s = .next t → t.err = 0#2 →
    (Instr.lengthBounded i = true → t.idx = s.len) ∧
      ((i = .crc16Bit ∨ i = .crc32Ref ∨ i = .crc32Std) →
        t.rnd = if s.len.toNat = 0 then s.rnd else 8#4) ∧
      (∀ z, i = .crc32Nt → FirstNul s z →
        t.idx = BitVec.ofNat 32 z ∧ (z = 0 → t.rnd = s.rnd ∧ t.b32 = s.b32) ∧
          (z ≠ 0 → t.rnd = 8#4 ∧ t.b32 = 0#32)) ∧
      ((i = .t16Build ∨ i = .t32Build ∨ (i = .crc16Tbl ∧ s.t16v = false) ∨
          (i = .crc32Tbl ∧ s.t32v = false)) →
        t.tidx = 256#9 ∧ t.rnd = 8#4)

/-! ### The pure functions -/

/-- The three rounds on one register: a shift by one and, by the bit shifted out, the polynomial; the
bit that comes in is that bit. A standard-form round is a reflected round seen through the reversal
(40_crc16.md R90, 42_crc32_bit.md R120, R122). -/
def Obligations.RoundsShiftAndConditionallyXor : Prop :=
  (∀ r : Half,
      round16 r = (if r.getLsbD 0 then (r >>> 1) ^^^ 0xA001#16 else r >>> 1) ∧
        (round16 r).getLsbD 15 = r.getLsbD 0) ∧
    (∀ r : Word,
      round32s r = (if r.getLsbD 31 then (r <<< 1) ^^^ 0x04C11DB7#32 else r <<< 1) ∧
        (round32s r).getLsbD 0 = r.getLsbD 31) ∧
    ∀ r : Word,
      round32r r = (if r.getLsbD 0 then (r >>> 1) ^^^ 0xEDB88320#32 else r >>> 1) ∧
        (round32r r).getLsbD 31 = r.getLsbD 0 ∧ rev32 (round32s r) = round32r (rev32 r)

/-- The two reversals bit by bit, and the laws of the unit: involution, linearity, shifts, byte
placement, bytewise form (41_bitrev.md R110, R111, R114). -/
def Obligations.ReversalLaws : Prop :=
  (∀ v : Byte, ∀ i, i < 8 → (rev8 v).getLsbD i = v.getLsbD (7 - i)) ∧
    (∀ v : Word, ∀ i, i < 32 → (rev32 v).getLsbD i = v.getLsbD (31 - i)) ∧
    (∀ v : Byte, rev8 (rev8 v) = v) ∧ (∀ v : Word, rev32 (rev32 v) = v) ∧
    Function.Bijective rev8 ∧ Function.Bijective rev32 ∧
    (∀ a b : Byte, rev8 (a ^^^ b) = rev8 a ^^^ rev8 b) ∧ (∀ a : Byte, rev8 (~~~a) = ~~~(rev8 a)) ∧
    (∀ a b : Word, rev32 (a ^^^ b) = rev32 a ^^^ rev32 b) ∧ (∀ a : Word, rev32 (~~~a) = ~~~(rev32 a)) ∧
    (∀ v : Word, rev32 (v <<< 1) = rev32 v >>> 1) ∧ (∀ v : Word, rev32 (v >>> 1) = rev32 v <<< 1) ∧
    (∀ b : Byte, rev32 (b.setWidth 32) = (rev8 b).setWidth 32 <<< 24) ∧
    ∀ v : Word,
      (rev32 v).extractLsb' 24 8 = rev8 (v.extractLsb' 0 8) ∧
        (rev32 v).extractLsb' 16 8 = rev8 (v.extractLsb' 8 8) ∧
        (rev32 v).extractLsb' 8 8 = rev8 (v.extractLsb' 16 8) ∧
        (rev32 v).extractLsb' 0 8 = rev8 (v.extractLsb' 24 8)

/-- The placed byte: the reversed byte in bits 31:24, so that bit 31 - i is bit i of the byte, and the low
24 bits 0; it is the 32-bit reversal of the byte (42_crc32_bit.md R121). -/
def Obligations.PlacePutsTheReversedByteOnTop : Prop :=
  ∀ b : Byte,
    place b = (rev8 b).setWidth 32 <<< 24 ∧ place b = rev32 (b.setWidth 32) ∧
      (∀ i, i < 8 → (place b).getLsbD (31 - i) = b.getLsbD i) ∧
      ∀ i, i < 24 → (place b).getLsbD i = false

/-- A round of the null-terminated engine: bit 31 of the XOR of register and shift word decides, the word
shifts beside. It is a standard-form round of the two words' XOR, so that eight of them from a placed
byte leave B32 at 0 and R32 as the standard form has it (42_crc32_bit.md R123). -/
def Obligations.NullTerminatedRoundIsTheStandardRound : Prop :=
  (∀ r w : Word,
      roundnt (r, w) =
        (if (r ^^^ w).getLsbD 31 then (r <<< 1) ^^^ 0x04C11DB7#32 else r <<< 1, w <<< 1)) ∧
    (∀ r w : Word, (roundnt (r, w)).1 ^^^ (roundnt (r, w)).2 = round32s (r ^^^ w)) ∧
    ∀ (r : Word) (b : Byte),
      roundnt^[8] (r, place b) = (round32s^[8] (r ^^^ place b), 0#32)

/-- One lookup in a valid T16 is the byte's absorb and eight rounds (40_crc16.md R94). -/
def Obligations.LookupInT16IsEightRounds : Prop :=
  ∀ (t : Table16) (r : Half) (b : Byte),
    (∀ i (h : i < 256), t[i] = round16^[8] (BitVec.ofNat 16 i)) →
      step16t t r b = (r >>> 8) ^^^ t[(b ^^^ r.setWidth 8).toNat] ∧
        step16t t r b = round16^[8] (r ^^^ b.setWidth 16)

/-- One lookup in a valid T32 is the byte's absorb and eight standard-form rounds (43_crc32_table.md
R142), in both of the forms the rule gives. -/
def Obligations.LookupInT32IsEightRounds : Prop :=
  ∀ (t : Table32) (r : Word) (b : Byte),
    (∀ i (h : i < 256), t[i] = round32s^[8] (BitVec.ofNat 32 i <<< 24)) →
      step32t t r b = round32s^[8] (r ^^^ place b) ∧
        ∃ x : Byte, x.setWidth 32 = (r ^^^ place b) >>> 24 ∧
          step32t t r b = (r <<< 8) ^^^ t[x.toNat] ∧
          step32t t r b = ((r ^^^ place b) <<< 8) ^^^ t[x.toNat]

/-! ### Agreement of the engines -/

/-- CRC16.BIT and CRC16.TBL write the same value to RES, for every CAP, MSG and LEN <= CAP (40_crc16.md
R96). A set T16V means a valid table, which `StepKeepsInvariant` shows of the block. -/
def Obligations.Crc16EnginesAgree : Prop :=
  ∀ s : State, TablesValid s → s.len.toNat ≤ s.cap.toNat →
    ∃ (v : Word) (t u : State),
      exec .crc16Bit s = .next t ∧ exec .crc16Tbl s = .next u ∧ CompletedWith v t ∧ CompletedWith v u

/-- CRC32.STD, CRC32.REF and CRC32.TBL write the same value to RES, for every CAP, MSG and LEN <= CAP
(42_crc32_bit.md R129, 43_crc32_table.md R144). -/
def Obligations.Crc32EnginesAgree : Prop :=
  ∀ s : State, TablesValid s → s.len.toNat ≤ s.cap.toNat →
    ∃ (v : Word) (t u w : State),
      exec .crc32Std s = .next t ∧ exec .crc32Ref s = .next u ∧ exec .crc32Tbl s = .next w ∧
        CompletedWith v t ∧ CompletedWith v u ∧ CompletedWith v w

/-- CRC32.NT returns what CRC32.STD returns with LEN the index of the first 0x00 (42_crc32_bit.md
R125). -/
def Obligations.NullTerminatedAgreesWithStandard : Prop :=
  ∀ (s : State) (z : Nat), FirstNul s z →
    ∃ (v : Word) (t u : State),
      exec .crc32Nt s = .next t ∧ exec .crc32Std { s with len := BitVec.ofNat 32 z } = .next u ∧
        CompletedWith v t ∧ CompletedWith v u

/-- The check value: on "123456789" with LEN = 9 the three length-bounded CRC-32 engines return
0xCBF43926 (42_crc32_bit.md R127). -/
def Obligations.Crc32CheckValue : Prop :=
  ∀ s : State, TablesValid s → s.len = 9#32 → 9 ≤ s.cap.toNat →
    s.msgBytes 9 = [0x31#8, 0x32#8, 0x33#8, 0x34#8, 0x35#8, 0x36#8, 0x37#8, 0x38#8, 0x39#8] →
    ∃ t u w : State,
      exec .crc32Std s = .next t ∧ exec .crc32Ref s = .next u ∧ exec .crc32Tbl s = .next w ∧
        CompletedWith 0xCBF43926#32 t ∧ CompletedWith 0xCBF43926#32 u ∧ CompletedWith 0xCBF43926#32 w

/-! ### What a result may depend on -/

/-- Nothing the spec calls unspecified is ever observed: two states with the same ports, message and
valid tables, whatever their working registers, counters, RES, RV, ERR and not yet valid table entries
hold, end every command with the same STAT and the same readable RES, and again cannot be told apart
(10_state.md R23, R40; 70_reset_and_hazards.md R180). -/
def Obligations.UnspecifiedStateIsNeverObserved : Prop :=
  ∀ (i : Instr) (s t : State), SameInputs s t →
    ∃ s' t', exec i s = .next s' ∧ exec i t = .next t' ∧ SameView s' t' ∧ SameInputs s' t'

/-- The result of a length-bounded command is a function of LEN and MSG[0 .. LEN-1] alone: it does not
depend on CAP, on later bytes, or on whether and how a table was built (40_crc16.md R97,
42_crc32_bit.md R130, 43_crc32_table.md R145). -/
def Obligations.ResultDependsOnTheMessageAlone : Prop :=
  ∀ (i : Instr) (s t : State),
    Instr.lengthBounded i = true → TablesValid s → TablesValid t → s.len = t.len →
      s.len.toNat ≤ s.cap.toNat → t.len.toNat ≤ t.cap.toNat →
      (∀ a, a < s.len.toNat → s.msgByte a = t.msgByte a) →
      ∃ (v : Word) (s' t' : State),
        exec i s = .next s' ∧ exec i t = .next t' ∧ CompletedWith v s' ∧ CompletedWith v t'

/-- The result of CRC32.NT is a function of MSG up to the first 0x00 alone (42_crc32_bit.md R130). -/
def Obligations.NullTerminatedResultDependsOnTheStringAlone : Prop :=
  ∀ (s t : State) (z : Nat), FirstNul s z → z < t.cap.toNat →
    (∀ a, a ≤ z → s.msgByte a = t.msgByte a) →
    ∃ (v : Word) (s' t' : State),
      exec .crc32Nt s = .next s' ∧ exec .crc32Nt t = .next t' ∧ CompletedWith v s' ∧ CompletedWith v t'

/-- An operand port a command does not use has no effect on the outcome (30_encoding.md R71): the two
runs end with the same view, tables and flags; and REV8 ignores ARG[31:8]. -/
def Obligations.UnusedOperandPortsAreIgnored : Prop :=
  (∀ (i : Instr) (s : State) (a n : Word),
      (Instr.operandUse i = .arg → a = s.arg) → (Instr.operandUse i = .len → n = s.len) →
        ∃ t u, exec i s = .next t ∧ exec i { s with arg := a, len := n } = .next u ∧
          SameView t u ∧ SameT16 t u ∧ SameT32 t u) ∧
    ∀ (s : State) (a : Word), a.setWidth 8 = s.arg.setWidth 8 →
      ∃ t u, exec .rev8 s = .next t ∧ exec .rev8 { s with arg := a } = .next u ∧ SameView t u

/-- The two families share nothing: a T16 build or CRC16.TBL leaves T32 and its flag alone, a T32 build
or CRC32.TBL leaves T16 and its flag alone, and the bit engines and the reversals neither read nor
write either (10_state.md R39). -/
def Obligations.FamiliesAreIndependent : Prop :=
  ∀ s : State,
    (∀ i t, (i = .t16Build ∨ i = .crc16Tbl) → exec i s = .next t → SameT32 s t) ∧
      (∀ i t, (i = .t32Build ∨ i = .crc32Tbl) → exec i s = .next t → SameT16 s t) ∧
      ∀ (i : Instr) (t : State) (a : Table16) (b : Table32) (p q : Bool),
        i ≠ .t16Build → i ≠ .crc16Tbl → i ≠ .t32Build → i ≠ .crc32Tbl → exec i s = .next t →
          SameT16 s t ∧ SameT32 s t ∧
            exec i { s with t16 := a, t32 := b, t16v := p, t32v := q } =
              .next { t with t16 := a, t32 := b, t16v := p, t32v := q }

/-! ### Frames -/

/-- What the CRC-16 commands leave unchanged. In every case: MSG byte for byte, CAP, the ports, T32 and
its flag. Unless they fault: R32 and B32, and the registers and tables of 40_crc16.md's "State written"
that the command does not name (TIDX and T16 for CRC16.BIT, and for CRC16.TBL when no build ran, and
then RND too; IDX and RES for T16.BUILD). -/
def Obligations.FrameOfCrc16Commands : Prop :=
  ∀ (i : Instr) (s t : State),
    (i = .crc16Bit ∨ i = .crc16Tbl ∨ i = .t16Build) → exec i s = .next t →
      SameSurroundings s t ∧ SameBytes s t ∧ SameT32 s t ∧
        (t.err = 0#2 →
          t.r32 = s.r32 ∧ t.b32 = s.b32 ∧
            ((i = .crc16Bit ∨ (i = .crc16Tbl ∧ s.t16v = true)) → SameT16 s t ∧ t.tidx = s.tidx) ∧
            (i = .crc16Tbl ∧ s.t16v = true → t.rnd = s.rnd) ∧
            (i = .t16Build → t.idx = s.idx ∧ t.res = s.res))

/-- What the CRC-32 commands leave unchanged. In every case: MSG byte for byte, CAP, the ports, T16 and
its flag. Unless they fault: R16, B32 but for CRC32.NT, and the registers and tables of 42_crc32_bit.md's
and 43_crc32_table.md's "State written" that the command does not name (TIDX and T32 for the bit engines,
and for CRC32.TBL when no build ran, and then RND too; IDX and RES for T32.BUILD). -/
def Obligations.FrameOfCrc32Commands : Prop :=
  ∀ (i : Instr) (s t : State),
    (i = .crc32Ref ∨ i = .crc32Tbl ∨ i = .t32Build ∨ i = .crc32Std ∨ i = .crc32Nt) →
      exec i s = .next t →
      SameSurroundings s t ∧ SameBytes s t ∧ SameT16 s t ∧
        (t.err = 0#2 →
          t.r16 = s.r16 ∧ (i ≠ .crc32Nt → t.b32 = s.b32) ∧
            ((i ≠ .crc32Tbl ∧ i ≠ .t32Build) ∨ (i = .crc32Tbl ∧ s.t32v = true) →
              SameT32 s t ∧ t.tidx = s.tidx) ∧
            (i = .crc32Tbl ∧ s.t32v = true → t.rnd = s.rnd) ∧
            (i = .t32Build → t.idx = s.idx ∧ t.res = s.res))

/-- What the reversal commands leave unchanged: everything but RES, STAT and the sampled operands
(41_bitrev.md R112, R113). -/
def Obligations.FrameOfReversals : Prop :=
  ∀ (i : Instr) (s t : State),
    (i = .rev8 ∨ i = .rev32) → exec i s = .next t →
      SameSurroundings s t ∧ SameBytes s t ∧ SameT16 s t ∧ SameT32 s t ∧ SameWorking s t ∧
        t.draws = s.draws

/-! ### Whole-machine rules -/

/-- The block never writes MSG, at either grain and from any state, and CAP is a constant of a run;
the caller, when BUSY = 0, may write any byte below CAP, which then reads back, the others as before
(20_memory.md R51). -/
def Obligations.OnlyTheCallerWritesTheMessage : Prop :=
  (∀ s t : State, (step s = .next t ∨ seqStep s = .next t) →
      t.msg = s.msg ∧ t.cap = s.cap ∧ SameBytes s t) ∧
    ∀ (s : State) (a : Nat) (b : Byte), s.busy = false → a < s.cap.toNat →
      ∃ t, callerWrite s a b = .next t ∧ t.msgByte a = b ∧
        (∀ a', a' ≠ a → t.msgByte a' = s.msgByte a') ∧ t.cap = s.cap ∧ t.stat = s.stat

/-- A set valid flag stays set but for reset, and a flag rises only in a build or in a table command of
its own family, at either grain: a sequencing step changes a flag only while such a command runs, and of
the caller's moves only reset changes one, clearing both (10_state.md R28). -/
def Obligations.ValidFlagsRiseInBuildsAndFallInReset : Prop :=
  (∀ (i : Instr) (s t : State), exec i s = .next t →
      (s.t16v = true → t.t16v = true) ∧ (s.t32v = true → t.t32v = true) ∧
        (t.t16v ≠ s.t16v → i = .t16Build ∨ i = .crc16Tbl) ∧
        (t.t32v ≠ s.t32v → i = .t32Build ∨ i = .crc32Tbl)) ∧
    (∀ s t : State, seqStep s = .next t →
      (s.t16v = true → t.t16v = true) ∧ (s.t32v = true → t.t32v = true) ∧
        (t.t16v ≠ s.t16v → s.busy = true ∧
          (decode s.runCmd = .ok .t16Build ∨ decode s.runCmd = .ok .crc16Tbl)) ∧
        (t.t32v ≠ s.t32v → s.busy = true ∧
          (decode s.runCmd = .ok .t32Build ∨ decode s.runCmd = .ok .crc32Tbl))) ∧
    (∀ (m : Move) (s t : State), m ≠ .reset → callerMove m s = .next t →
      t.t16v = s.t16v ∧ t.t32v = s.t32v) ∧
    ∀ s : State, s.applyReset.t16v = false ∧ s.applyReset.t32v = false

/-- STAT bit by bit: BUSY, T16V, T32V, RV, the two bits of ERR, and two bits that always read 0
(10_state.md R34). -/
def Obligations.StatBitsAreTheirFields : Prop :=
  ∀ s : State,
    (readStat s).getLsbD 0 = s.busy ∧ (readStat s).getLsbD 1 = s.t16v ∧
      (readStat s).getLsbD 2 = s.t32v ∧ (readStat s).getLsbD 3 = s.rv ∧
      (readStat s >>> 4).setWidth 2 = s.err ∧ (readStat s).getLsbD 6 = false ∧
      (readStat s).getLsbD 7 = false

/-- RES can be read exactly while RV = 1; otherwise the read is refused, as 93_implementation_defined.md
U6 asks (10_state.md R33). -/
def Obligations.ResultIsReadableExactlyWhileValid : Prop :=
  ∀ s : State,
    (s.rv = true → readRes s = .ok s.res) ∧ (s.rv = false → readRes s = .error .resultNotValid)

/-- While a command runs the caller sees nothing of it: from any BUSY state of the invariant, a step
that leaves BUSY = 1 leaves RES, RV and ERR as they are, and of STAT only a valid flag can change, from
0 to 1 (10_state.md R24, 20_memory.md R57). That no flag rises before BUSY falls in an explicit build, so
that the flag which changes is a table command's, is the model's choice (log entry 5). -/
def Obligations.NothingIsExposedWhileBusy : Prop :=
  ∀ s t : State, Inv s → s.busy = true → seqStep s = .next t → t.busy = true →
    t.res = s.res ∧ t.rv = false ∧ t.err = 0#2 ∧ (∃ e, readRes t = .error e) ∧
      (t.t16v = s.t16v ∨ (s.t16v = false ∧ decode s.runCmd = .ok .crc16Tbl)) ∧
      (t.t32v = s.t32v ∨ (s.t32v = false ∧ decode s.runCmd = .ok .crc32Tbl))

/-- Reset, in any state and in mid-command too: STAT = 0x00, with no result and no fault code; MSG and
CAP stay the caller's; and the first command presented after it is accepted and runs
(70_reset_and_hazards.md R180, R181). -/
def Obligations.ResetAbandonsTheRunningCommand : Prop :=
  ∀ s : State,
    readStat s.applyReset = 0x00#8 ∧ SameSurroundings s s.applyReset ∧
      ∀ (c : Byte) (a n : Word) (i : Instr), decode c = .ok i →
        step (s.applyReset.issue c a n) = exec i (s.applyReset.issue c a n)

/-- After power-on STAT reads 0x00, RES is not readable and no message byte is listed
(70_reset_and_hazards.md R180). -/
def Obligations.PowerOnStatusIsZero : Prop :=
  readStat State.reset = 0x00#8 ∧ readRes State.reset = .error .resultNotValid ∧ State.reset.msg = []

/-! ### The message memory -/

/-- A message byte reads as written last, every other byte as before, and the canonical form is kept
(20_memory.md R50, R61). -/
def Obligations.MessageMemoryReadsWhatWasWritten : Prop :=
  ∀ (m : List Host.Cell) (a : Nat) (b : Byte), Memory.wf m →
    Memory.wf (Memory.set m a b) ∧ Memory.get? (Memory.set m a b) a = some b ∧
      (∀ a', a' ≠ a → Memory.get? (Memory.set m a b) a' = Memory.get? m a') ∧
      ∀ m', Memory.wf m' → (∀ a', Memory.get? m' a' = Memory.get? m a') → m' = m

/-! ### The invariant -/

/-- The state after power-on meets the invariant. -/
def Obligations.ResetMeetsInvariant : Prop := Inv State.reset

/-- Every step keeps the invariant: set valid flags mean valid tables (10_state.md R28), the message
memory keeps its form, and a running command is where its rule says it can be, with its working
registers holding what the bytes or rounds done so far make of them (R26, R27). -/
def Obligations.StepKeepsInvariant : Prop :=
  ∀ s t : State, Inv s → step s = .next t → Inv t

/-- The same at the finest grain, acceptance and each sequencing step (10_state.md R26, R27, R28). -/
def Obligations.SequencingKeepsInvariant : Prop :=
  ∀ s t : State, Inv s → seqStep s = .next t → Inv t

/-- The caller's moves keep the invariant: presenting and withdrawing a command, writing MSG, reset
(10_state.md R30, R36; 20_memory.md R51; 70_reset_and_hazards.md R181). -/
def Obligations.CallerMovesKeepInvariant : Prop :=
  ∀ (m : Move) (s t : State), Inv s → callerMove m s = .next t → Inv t

/-- No state of the invariant stops the block: both grains answer a next state. The block never reads
a byte at or above CAP (20_memory.md R50) and never leaves its command's sequence (10_state.md R27). -/
def Obligations.InvariantStatesAlwaysStep : Prop :=
  ∀ s : State, Inv s → (∃ t, step s = .next t) ∧ ∃ t, seqStep s = .next t

/-- Every state the block can reach meets the invariant, whatever the caller does. -/
def Obligations.ReachableStatesMeetInvariant : Prop := ∀ s : State, Reachable s → Inv s

/-! ### The two grains -/

/-- The sequencing steps of a command reach the state its transaction gives, in the work R194 counts
for it and at most two steps more, the check at its start and the write of RES at its end; those of a
reserved word reach its fault (70_reset_and_hazards.md R194, 92_eei_decisions.md D1). What counts as a
sequencing step, the two steps more among them, is the model's choice (log entry 5); that the working
registers and counters agree too rests on its reading of what they hold at the end (log entry 9). -/
def Obligations.SequencingReachesTheTransaction : Prop :=
  (∀ (s : State) (i : Instr),
      decode s.cmd = .ok i → tickRun (workSteps i s + 2) s.accept = exec i s) ∧
    ∀ (s : State) (e : DecodeError),
      decode s.cmd = .error e → tickRun 1 s.accept = .next (execReserved s)

/-- From any BUSY state of the invariant the running command ends, within a bound fixed by LEN and CAP
(70_reset_and_hazards.md R194). The sequencing step that is counted and the constant of `tickBound` are the
model's choice (log entry 5). -/
def Obligations.RunningCommandAlwaysEnds : Prop :=
  ∀ s : State, Inv s → ∃ t, tickRun s.tickBound s = .next t ∧ t.busy = false
end

