-- ==== Sys2Proof/Laws/Memory.lean ====
section
/-! SUPPORT. The laws of the message memory: a write keeps the canonical form, reads back, and leaves
every other index alone. -/

namespace Sys2Proof.Machine

theorem Memory.mem_set {m : List Host.Cell} {a : Nat} {b : Byte} {c : Host.Cell}
    (h : c ∈ Memory.set m a b) : c = (a, b) ∨ c ∈ m := by
  induction m with
  | nil => simpa [Memory.set] using h
  | cons d rest ih =>
    simp only [Memory.set] at h
    split at h
    · simpa using h
    · split at h
      · rcases List.mem_cons.1 h with h | h
        · exact .inl h
        · exact .inr (List.mem_cons_of_mem _ h)
      · rcases List.mem_cons.1 h with h | h
        · exact .inr (h ▸ List.mem_cons_self)
        · exact (ih h).imp id (List.mem_cons_of_mem _)

/-- A write keeps the canonical form. -/
theorem Memory.set_wf {m : List Host.Cell} (a : Nat) (b : Byte) (h : Memory.wf m) :
    Memory.wf (Memory.set m a b) := by
  induction m with
  | nil => simp [Memory.set]
  | cons d rest ih =>
    obtain ⟨hd, hr⟩ := List.pairwise_cons.1 h
    simp only [Memory.set]
    split
    · refine List.pairwise_cons.2 ⟨fun c hc => ?_, h⟩
      rcases List.mem_cons.1 hc with rfl | hc
      · assumption
      · exact Nat.lt_trans ‹_› (hd c hc)
    · split
      · subst a
        exact List.pairwise_cons.2 ⟨hd, hr⟩
      · refine List.pairwise_cons.2 ⟨fun c hc => ?_, ih hr⟩
        rcases Memory.mem_set hc with rfl | hc
        · show d.1 < a
          omega
        · exact hd c hc

@[simp] theorem Memory.get?_set_self (m : List Host.Cell) (a : Nat) (b : Byte) :
    Memory.get? (Memory.set m a b) a = some b := by
  induction m with
  | nil => simp [Memory.set, Memory.get?]
  | cons d rest ih =>
    simp only [Memory.set]
    split
    · simp [Memory.get?]
    · split
      · simp [Memory.get?]
      · simp only [Memory.get?, ih]
        rw [if_neg (by omega)]

theorem Memory.get?_set_ne (m : List Host.Cell) {a a' : Nat} (b : Byte) (h : a' ≠ a) :
    Memory.get? (Memory.set m a b) a' = Memory.get? m a' := by
  induction m with
  | nil => simp [Memory.set, Memory.get?, h.symm]
  | cons d rest ih =>
    simp only [Memory.set]
    split
    · simp [Memory.get?, h.symm]
    · split
      · subst a
        simp [Memory.get?, h.symm]
      · simp only [Memory.get?, ih]

/-- The memory after power-on is in canonical form. -/
theorem Memory.reset_wf : Memory.wf State.reset.msg := List.Pairwise.nil

/-- A byte just written is the byte MSG holds there. -/
@[simp] theorem State.putMsg_msgByte_self (s : State) (a : Nat) (b : Byte) :
    (s.putMsg a b).msgByte a = b := by simp [State.msgByte, State.putMsg]

/-- Every other byte is as it was. -/
theorem State.putMsg_msgByte_ne (s : State) {a a' : Nat} (b : Byte) (h : a' ≠ a) :
    (s.putMsg a b).msgByte a' = s.msgByte a' := by
  simp [State.msgByte, State.putMsg, Memory.get?_set_ne _ _ h]

/-- What the caller's write can do: it is refused while BUSY = 1, there is no byte at or above CAP, and
otherwise the byte is put there. -/
theorem callerWrite_next {s t : State} {a : Nat} {b : Byte} (h : callerWrite s a b = .next t) :
    s.busy = false ∧ a < s.cap.toNat ∧ t = s.putMsg a b := by
  unfold callerWrite at h
  split at h
  · cases h
  · split at h
    · cases h; exact ⟨by simpa using ‹¬s.busy = true›, ‹_›, rfl⟩
    · cases h

end Sys2Proof.Machine
end

