-- ==== Sys2Proof/Laws/State.lean ====
section
/-! SUPPORT. One lemma for each field of `State` under each named update, so that no proof unfolds a
record update; and the reads of the message that an update leaves alone. -/

namespace Sys2Proof.Machine

variable (s : State)

/-! ### `State.setPhase` -/

@[simp] theorem State.setPhase_presented (p : Phase) : (s.setPhase p).presented = s.presented := rfl
@[simp] theorem State.setPhase_cmd (p : Phase) : (s.setPhase p).cmd = s.cmd := rfl
@[simp] theorem State.setPhase_arg (p : Phase) : (s.setPhase p).arg = s.arg := rfl
@[simp] theorem State.setPhase_len (p : Phase) : (s.setPhase p).len = s.len := rfl
@[simp] theorem State.setPhase_runCmd (p : Phase) : (s.setPhase p).runCmd = s.runCmd := rfl
@[simp] theorem State.setPhase_runArg (p : Phase) : (s.setPhase p).runArg = s.runArg := rfl
@[simp] theorem State.setPhase_runLen (p : Phase) : (s.setPhase p).runLen = s.runLen := rfl
@[simp] theorem State.setPhase_phase (p : Phase) : (s.setPhase p).phase = p := rfl
@[simp] theorem State.setPhase_r16 (p : Phase) : (s.setPhase p).r16 = s.r16 := rfl
@[simp] theorem State.setPhase_r32 (p : Phase) : (s.setPhase p).r32 = s.r32 := rfl
@[simp] theorem State.setPhase_b32 (p : Phase) : (s.setPhase p).b32 = s.b32 := rfl
@[simp] theorem State.setPhase_idx (p : Phase) : (s.setPhase p).idx = s.idx := rfl
@[simp] theorem State.setPhase_rnd (p : Phase) : (s.setPhase p).rnd = s.rnd := rfl
@[simp] theorem State.setPhase_tidx (p : Phase) : (s.setPhase p).tidx = s.tidx := rfl
@[simp] theorem State.setPhase_busy (p : Phase) : (s.setPhase p).busy = s.busy := rfl
@[simp] theorem State.setPhase_t16v (p : Phase) : (s.setPhase p).t16v = s.t16v := rfl
@[simp] theorem State.setPhase_t32v (p : Phase) : (s.setPhase p).t32v = s.t32v := rfl
@[simp] theorem State.setPhase_rv (p : Phase) : (s.setPhase p).rv = s.rv := rfl
@[simp] theorem State.setPhase_err (p : Phase) : (s.setPhase p).err = s.err := rfl
@[simp] theorem State.setPhase_res (p : Phase) : (s.setPhase p).res = s.res := rfl
@[simp] theorem State.setPhase_t16 (p : Phase) : (s.setPhase p).t16 = s.t16 := rfl
@[simp] theorem State.setPhase_t32 (p : Phase) : (s.setPhase p).t32 = s.t32 := rfl
@[simp] theorem State.setPhase_msg (p : Phase) : (s.setPhase p).msg = s.msg := rfl
@[simp] theorem State.setPhase_cap (p : Phase) : (s.setPhase p).cap = s.cap := rfl
@[simp] theorem State.setPhase_draws (p : Phase) : (s.setPhase p).draws = s.draws := rfl
@[simp] theorem State.setPhase_byteCount (p : Phase) : (s.setPhase p).byteCount = s.byteCount := rfl
@[simp] theorem State.setPhase_msgByte (p : Phase) (x : Nat) : (s.setPhase p).msgByte x = s.msgByte x := rfl
@[simp] theorem State.setPhase_msgBytes (p : Phase) (x : Nat) : (s.setPhase p).msgBytes x = s.msgBytes x := rfl

/-! ### `State.work16` -/

@[simp] theorem State.work16_presented (r : Half) (i : Word) (k : BitVec 4) : (s.work16 r i k).presented = s.presented := rfl
@[simp] theorem State.work16_cmd (r : Half) (i : Word) (k : BitVec 4) : (s.work16 r i k).cmd = s.cmd := rfl
@[simp] theorem State.work16_arg (r : Half) (i : Word) (k : BitVec 4) : (s.work16 r i k).arg = s.arg := rfl
@[simp] theorem State.work16_len (r : Half) (i : Word) (k : BitVec 4) : (s.work16 r i k).len = s.len := rfl
@[simp] theorem State.work16_runCmd (r : Half) (i : Word) (k : BitVec 4) : (s.work16 r i k).runCmd = s.runCmd := rfl
@[simp] theorem State.work16_runArg (r : Half) (i : Word) (k : BitVec 4) : (s.work16 r i k).runArg = s.runArg := rfl
@[simp] theorem State.work16_runLen (r : Half) (i : Word) (k : BitVec 4) : (s.work16 r i k).runLen = s.runLen := rfl
@[simp] theorem State.work16_phase (r : Half) (i : Word) (k : BitVec 4) : (s.work16 r i k).phase = s.phase := rfl
@[simp] theorem State.work16_r16 (r : Half) (i : Word) (k : BitVec 4) : (s.work16 r i k).r16 = r := rfl
@[simp] theorem State.work16_r32 (r : Half) (i : Word) (k : BitVec 4) : (s.work16 r i k).r32 = s.r32 := rfl
@[simp] theorem State.work16_b32 (r : Half) (i : Word) (k : BitVec 4) : (s.work16 r i k).b32 = s.b32 := rfl
@[simp] theorem State.work16_idx (r : Half) (i : Word) (k : BitVec 4) : (s.work16 r i k).idx = i := rfl
@[simp] theorem State.work16_rnd (r : Half) (i : Word) (k : BitVec 4) : (s.work16 r i k).rnd = k := rfl
@[simp] theorem State.work16_tidx (r : Half) (i : Word) (k : BitVec 4) : (s.work16 r i k).tidx = s.tidx := rfl
@[simp] theorem State.work16_busy (r : Half) (i : Word) (k : BitVec 4) : (s.work16 r i k).busy = s.busy := rfl
@[simp] theorem State.work16_t16v (r : Half) (i : Word) (k : BitVec 4) : (s.work16 r i k).t16v = s.t16v := rfl
@[simp] theorem State.work16_t32v (r : Half) (i : Word) (k : BitVec 4) : (s.work16 r i k).t32v = s.t32v := rfl
@[simp] theorem State.work16_rv (r : Half) (i : Word) (k : BitVec 4) : (s.work16 r i k).rv = s.rv := rfl
@[simp] theorem State.work16_err (r : Half) (i : Word) (k : BitVec 4) : (s.work16 r i k).err = s.err := rfl
@[simp] theorem State.work16_res (r : Half) (i : Word) (k : BitVec 4) : (s.work16 r i k).res = s.res := rfl
@[simp] theorem State.work16_t16 (r : Half) (i : Word) (k : BitVec 4) : (s.work16 r i k).t16 = s.t16 := rfl
@[simp] theorem State.work16_t32 (r : Half) (i : Word) (k : BitVec 4) : (s.work16 r i k).t32 = s.t32 := rfl
@[simp] theorem State.work16_msg (r : Half) (i : Word) (k : BitVec 4) : (s.work16 r i k).msg = s.msg := rfl
@[simp] theorem State.work16_cap (r : Half) (i : Word) (k : BitVec 4) : (s.work16 r i k).cap = s.cap := rfl
@[simp] theorem State.work16_draws (r : Half) (i : Word) (k : BitVec 4) : (s.work16 r i k).draws = s.draws := rfl
@[simp] theorem State.work16_byteCount (r : Half) (i : Word) (k : BitVec 4) : (s.work16 r i k).byteCount = s.byteCount := rfl
@[simp] theorem State.work16_msgByte (r : Half) (i : Word) (k : BitVec 4) (x : Nat) : (s.work16 r i k).msgByte x = s.msgByte x := rfl
@[simp] theorem State.work16_msgBytes (r : Half) (i : Word) (k : BitVec 4) (x : Nat) : (s.work16 r i k).msgBytes x = s.msgBytes x := rfl

/-! ### `State.work32` -/

@[simp] theorem State.work32_presented (r : Word) (i : Word) (k : BitVec 4) : (s.work32 r i k).presented = s.presented := rfl
@[simp] theorem State.work32_cmd (r : Word) (i : Word) (k : BitVec 4) : (s.work32 r i k).cmd = s.cmd := rfl
@[simp] theorem State.work32_arg (r : Word) (i : Word) (k : BitVec 4) : (s.work32 r i k).arg = s.arg := rfl
@[simp] theorem State.work32_len (r : Word) (i : Word) (k : BitVec 4) : (s.work32 r i k).len = s.len := rfl
@[simp] theorem State.work32_runCmd (r : Word) (i : Word) (k : BitVec 4) : (s.work32 r i k).runCmd = s.runCmd := rfl
@[simp] theorem State.work32_runArg (r : Word) (i : Word) (k : BitVec 4) : (s.work32 r i k).runArg = s.runArg := rfl
@[simp] theorem State.work32_runLen (r : Word) (i : Word) (k : BitVec 4) : (s.work32 r i k).runLen = s.runLen := rfl
@[simp] theorem State.work32_phase (r : Word) (i : Word) (k : BitVec 4) : (s.work32 r i k).phase = s.phase := rfl
@[simp] theorem State.work32_r16 (r : Word) (i : Word) (k : BitVec 4) : (s.work32 r i k).r16 = s.r16 := rfl
@[simp] theorem State.work32_r32 (r : Word) (i : Word) (k : BitVec 4) : (s.work32 r i k).r32 = r := rfl
@[simp] theorem State.work32_b32 (r : Word) (i : Word) (k : BitVec 4) : (s.work32 r i k).b32 = s.b32 := rfl
@[simp] theorem State.work32_idx (r : Word) (i : Word) (k : BitVec 4) : (s.work32 r i k).idx = i := rfl
@[simp] theorem State.work32_rnd (r : Word) (i : Word) (k : BitVec 4) : (s.work32 r i k).rnd = k := rfl
@[simp] theorem State.work32_tidx (r : Word) (i : Word) (k : BitVec 4) : (s.work32 r i k).tidx = s.tidx := rfl
@[simp] theorem State.work32_busy (r : Word) (i : Word) (k : BitVec 4) : (s.work32 r i k).busy = s.busy := rfl
@[simp] theorem State.work32_t16v (r : Word) (i : Word) (k : BitVec 4) : (s.work32 r i k).t16v = s.t16v := rfl
@[simp] theorem State.work32_t32v (r : Word) (i : Word) (k : BitVec 4) : (s.work32 r i k).t32v = s.t32v := rfl
@[simp] theorem State.work32_rv (r : Word) (i : Word) (k : BitVec 4) : (s.work32 r i k).rv = s.rv := rfl
@[simp] theorem State.work32_err (r : Word) (i : Word) (k : BitVec 4) : (s.work32 r i k).err = s.err := rfl
@[simp] theorem State.work32_res (r : Word) (i : Word) (k : BitVec 4) : (s.work32 r i k).res = s.res := rfl
@[simp] theorem State.work32_t16 (r : Word) (i : Word) (k : BitVec 4) : (s.work32 r i k).t16 = s.t16 := rfl
@[simp] theorem State.work32_t32 (r : Word) (i : Word) (k : BitVec 4) : (s.work32 r i k).t32 = s.t32 := rfl
@[simp] theorem State.work32_msg (r : Word) (i : Word) (k : BitVec 4) : (s.work32 r i k).msg = s.msg := rfl
@[simp] theorem State.work32_cap (r : Word) (i : Word) (k : BitVec 4) : (s.work32 r i k).cap = s.cap := rfl
@[simp] theorem State.work32_draws (r : Word) (i : Word) (k : BitVec 4) : (s.work32 r i k).draws = s.draws := rfl
@[simp] theorem State.work32_byteCount (r : Word) (i : Word) (k : BitVec 4) : (s.work32 r i k).byteCount = s.byteCount := rfl
@[simp] theorem State.work32_msgByte (r : Word) (i : Word) (k : BitVec 4) (x : Nat) : (s.work32 r i k).msgByte x = s.msgByte x := rfl
@[simp] theorem State.work32_msgBytes (r : Word) (i : Word) (k : BitVec 4) (x : Nat) : (s.work32 r i k).msgBytes x = s.msgBytes x := rfl

/-! ### `State.workNt` -/

@[simp] theorem State.workNt_presented (q : Word × Word) (i : Word) (k : BitVec 4) : (s.workNt q i k).presented = s.presented := rfl
@[simp] theorem State.workNt_cmd (q : Word × Word) (i : Word) (k : BitVec 4) : (s.workNt q i k).cmd = s.cmd := rfl
@[simp] theorem State.workNt_arg (q : Word × Word) (i : Word) (k : BitVec 4) : (s.workNt q i k).arg = s.arg := rfl
@[simp] theorem State.workNt_len (q : Word × Word) (i : Word) (k : BitVec 4) : (s.workNt q i k).len = s.len := rfl
@[simp] theorem State.workNt_runCmd (q : Word × Word) (i : Word) (k : BitVec 4) : (s.workNt q i k).runCmd = s.runCmd := rfl
@[simp] theorem State.workNt_runArg (q : Word × Word) (i : Word) (k : BitVec 4) : (s.workNt q i k).runArg = s.runArg := rfl
@[simp] theorem State.workNt_runLen (q : Word × Word) (i : Word) (k : BitVec 4) : (s.workNt q i k).runLen = s.runLen := rfl
@[simp] theorem State.workNt_phase (q : Word × Word) (i : Word) (k : BitVec 4) : (s.workNt q i k).phase = s.phase := rfl
@[simp] theorem State.workNt_r16 (q : Word × Word) (i : Word) (k : BitVec 4) : (s.workNt q i k).r16 = s.r16 := rfl
@[simp] theorem State.workNt_r32 (q : Word × Word) (i : Word) (k : BitVec 4) : (s.workNt q i k).r32 = q.1 := rfl
@[simp] theorem State.workNt_b32 (q : Word × Word) (i : Word) (k : BitVec 4) : (s.workNt q i k).b32 = q.2 := rfl
@[simp] theorem State.workNt_idx (q : Word × Word) (i : Word) (k : BitVec 4) : (s.workNt q i k).idx = i := rfl
@[simp] theorem State.workNt_rnd (q : Word × Word) (i : Word) (k : BitVec 4) : (s.workNt q i k).rnd = k := rfl
@[simp] theorem State.workNt_tidx (q : Word × Word) (i : Word) (k : BitVec 4) : (s.workNt q i k).tidx = s.tidx := rfl
@[simp] theorem State.workNt_busy (q : Word × Word) (i : Word) (k : BitVec 4) : (s.workNt q i k).busy = s.busy := rfl
@[simp] theorem State.workNt_t16v (q : Word × Word) (i : Word) (k : BitVec 4) : (s.workNt q i k).t16v = s.t16v := rfl
@[simp] theorem State.workNt_t32v (q : Word × Word) (i : Word) (k : BitVec 4) : (s.workNt q i k).t32v = s.t32v := rfl
@[simp] theorem State.workNt_rv (q : Word × Word) (i : Word) (k : BitVec 4) : (s.workNt q i k).rv = s.rv := rfl
@[simp] theorem State.workNt_err (q : Word × Word) (i : Word) (k : BitVec 4) : (s.workNt q i k).err = s.err := rfl
@[simp] theorem State.workNt_res (q : Word × Word) (i : Word) (k : BitVec 4) : (s.workNt q i k).res = s.res := rfl
@[simp] theorem State.workNt_t16 (q : Word × Word) (i : Word) (k : BitVec 4) : (s.workNt q i k).t16 = s.t16 := rfl
@[simp] theorem State.workNt_t32 (q : Word × Word) (i : Word) (k : BitVec 4) : (s.workNt q i k).t32 = s.t32 := rfl
@[simp] theorem State.workNt_msg (q : Word × Word) (i : Word) (k : BitVec 4) : (s.workNt q i k).msg = s.msg := rfl
@[simp] theorem State.workNt_cap (q : Word × Word) (i : Word) (k : BitVec 4) : (s.workNt q i k).cap = s.cap := rfl
@[simp] theorem State.workNt_draws (q : Word × Word) (i : Word) (k : BitVec 4) : (s.workNt q i k).draws = s.draws := rfl
@[simp] theorem State.workNt_byteCount (q : Word × Word) (i : Word) (k : BitVec 4) : (s.workNt q i k).byteCount = s.byteCount := rfl
@[simp] theorem State.workNt_msgByte (q : Word × Word) (i : Word) (k : BitVec 4) (x : Nat) : (s.workNt q i k).msgByte x = s.msgByte x := rfl
@[simp] theorem State.workNt_msgBytes (q : Word × Word) (i : Word) (k : BitVec 4) (x : Nat) : (s.workNt q i k).msgBytes x = s.msgBytes x := rfl

/-! ### `State.build16` -/

@[simp] theorem State.build16_presented (r : Half) (k : BitVec 4) (j : BitVec 9) : (s.build16 r k j).presented = s.presented := rfl
@[simp] theorem State.build16_cmd (r : Half) (k : BitVec 4) (j : BitVec 9) : (s.build16 r k j).cmd = s.cmd := rfl
@[simp] theorem State.build16_arg (r : Half) (k : BitVec 4) (j : BitVec 9) : (s.build16 r k j).arg = s.arg := rfl
@[simp] theorem State.build16_len (r : Half) (k : BitVec 4) (j : BitVec 9) : (s.build16 r k j).len = s.len := rfl
@[simp] theorem State.build16_runCmd (r : Half) (k : BitVec 4) (j : BitVec 9) : (s.build16 r k j).runCmd = s.runCmd := rfl
@[simp] theorem State.build16_runArg (r : Half) (k : BitVec 4) (j : BitVec 9) : (s.build16 r k j).runArg = s.runArg := rfl
@[simp] theorem State.build16_runLen (r : Half) (k : BitVec 4) (j : BitVec 9) : (s.build16 r k j).runLen = s.runLen := rfl
@[simp] theorem State.build16_phase (r : Half) (k : BitVec 4) (j : BitVec 9) : (s.build16 r k j).phase = s.phase := rfl
@[simp] theorem State.build16_r16 (r : Half) (k : BitVec 4) (j : BitVec 9) : (s.build16 r k j).r16 = r := rfl
@[simp] theorem State.build16_r32 (r : Half) (k : BitVec 4) (j : BitVec 9) : (s.build16 r k j).r32 = s.r32 := rfl
@[simp] theorem State.build16_b32 (r : Half) (k : BitVec 4) (j : BitVec 9) : (s.build16 r k j).b32 = s.b32 := rfl
@[simp] theorem State.build16_idx (r : Half) (k : BitVec 4) (j : BitVec 9) : (s.build16 r k j).idx = s.idx := rfl
@[simp] theorem State.build16_rnd (r : Half) (k : BitVec 4) (j : BitVec 9) : (s.build16 r k j).rnd = k := rfl
@[simp] theorem State.build16_tidx (r : Half) (k : BitVec 4) (j : BitVec 9) : (s.build16 r k j).tidx = j := rfl
@[simp] theorem State.build16_busy (r : Half) (k : BitVec 4) (j : BitVec 9) : (s.build16 r k j).busy = s.busy := rfl
@[simp] theorem State.build16_t16v (r : Half) (k : BitVec 4) (j : BitVec 9) : (s.build16 r k j).t16v = s.t16v := rfl
@[simp] theorem State.build16_t32v (r : Half) (k : BitVec 4) (j : BitVec 9) : (s.build16 r k j).t32v = s.t32v := rfl
@[simp] theorem State.build16_rv (r : Half) (k : BitVec 4) (j : BitVec 9) : (s.build16 r k j).rv = s.rv := rfl
@[simp] theorem State.build16_err (r : Half) (k : BitVec 4) (j : BitVec 9) : (s.build16 r k j).err = s.err := rfl
@[simp] theorem State.build16_res (r : Half) (k : BitVec 4) (j : BitVec 9) : (s.build16 r k j).res = s.res := rfl
@[simp] theorem State.build16_t16 (r : Half) (k : BitVec 4) (j : BitVec 9) : (s.build16 r k j).t16 = s.t16 := rfl
@[simp] theorem State.build16_t32 (r : Half) (k : BitVec 4) (j : BitVec 9) : (s.build16 r k j).t32 = s.t32 := rfl
@[simp] theorem State.build16_msg (r : Half) (k : BitVec 4) (j : BitVec 9) : (s.build16 r k j).msg = s.msg := rfl
@[simp] theorem State.build16_cap (r : Half) (k : BitVec 4) (j : BitVec 9) : (s.build16 r k j).cap = s.cap := rfl
@[simp] theorem State.build16_draws (r : Half) (k : BitVec 4) (j : BitVec 9) : (s.build16 r k j).draws = s.draws := rfl
@[simp] theorem State.build16_byteCount (r : Half) (k : BitVec 4) (j : BitVec 9) : (s.build16 r k j).byteCount = s.byteCount := rfl
@[simp] theorem State.build16_msgByte (r : Half) (k : BitVec 4) (j : BitVec 9) (x : Nat) : (s.build16 r k j).msgByte x = s.msgByte x := rfl
@[simp] theorem State.build16_msgBytes (r : Half) (k : BitVec 4) (j : BitVec 9) (x : Nat) : (s.build16 r k j).msgBytes x = s.msgBytes x := rfl

/-! ### `State.build32` -/

@[simp] theorem State.build32_presented (r : Word) (k : BitVec 4) (j : BitVec 9) : (s.build32 r k j).presented = s.presented := rfl
@[simp] theorem State.build32_cmd (r : Word) (k : BitVec 4) (j : BitVec 9) : (s.build32 r k j).cmd = s.cmd := rfl
@[simp] theorem State.build32_arg (r : Word) (k : BitVec 4) (j : BitVec 9) : (s.build32 r k j).arg = s.arg := rfl
@[simp] theorem State.build32_len (r : Word) (k : BitVec 4) (j : BitVec 9) : (s.build32 r k j).len = s.len := rfl
@[simp] theorem State.build32_runCmd (r : Word) (k : BitVec 4) (j : BitVec 9) : (s.build32 r k j).runCmd = s.runCmd := rfl
@[simp] theorem State.build32_runArg (r : Word) (k : BitVec 4) (j : BitVec 9) : (s.build32 r k j).runArg = s.runArg := rfl
@[simp] theorem State.build32_runLen (r : Word) (k : BitVec 4) (j : BitVec 9) : (s.build32 r k j).runLen = s.runLen := rfl
@[simp] theorem State.build32_phase (r : Word) (k : BitVec 4) (j : BitVec 9) : (s.build32 r k j).phase = s.phase := rfl
@[simp] theorem State.build32_r16 (r : Word) (k : BitVec 4) (j : BitVec 9) : (s.build32 r k j).r16 = s.r16 := rfl
@[simp] theorem State.build32_r32 (r : Word) (k : BitVec 4) (j : BitVec 9) : (s.build32 r k j).r32 = r := rfl
@[simp] theorem State.build32_b32 (r : Word) (k : BitVec 4) (j : BitVec 9) : (s.build32 r k j).b32 = s.b32 := rfl
@[simp] theorem State.build32_idx (r : Word) (k : BitVec 4) (j : BitVec 9) : (s.build32 r k j).idx = s.idx := rfl
@[simp] theorem State.build32_rnd (r : Word) (k : BitVec 4) (j : BitVec 9) : (s.build32 r k j).rnd = k := rfl
@[simp] theorem State.build32_tidx (r : Word) (k : BitVec 4) (j : BitVec 9) : (s.build32 r k j).tidx = j := rfl
@[simp] theorem State.build32_busy (r : Word) (k : BitVec 4) (j : BitVec 9) : (s.build32 r k j).busy = s.busy := rfl
@[simp] theorem State.build32_t16v (r : Word) (k : BitVec 4) (j : BitVec 9) : (s.build32 r k j).t16v = s.t16v := rfl
@[simp] theorem State.build32_t32v (r : Word) (k : BitVec 4) (j : BitVec 9) : (s.build32 r k j).t32v = s.t32v := rfl
@[simp] theorem State.build32_rv (r : Word) (k : BitVec 4) (j : BitVec 9) : (s.build32 r k j).rv = s.rv := rfl
@[simp] theorem State.build32_err (r : Word) (k : BitVec 4) (j : BitVec 9) : (s.build32 r k j).err = s.err := rfl
@[simp] theorem State.build32_res (r : Word) (k : BitVec 4) (j : BitVec 9) : (s.build32 r k j).res = s.res := rfl
@[simp] theorem State.build32_t16 (r : Word) (k : BitVec 4) (j : BitVec 9) : (s.build32 r k j).t16 = s.t16 := rfl
@[simp] theorem State.build32_t32 (r : Word) (k : BitVec 4) (j : BitVec 9) : (s.build32 r k j).t32 = s.t32 := rfl
@[simp] theorem State.build32_msg (r : Word) (k : BitVec 4) (j : BitVec 9) : (s.build32 r k j).msg = s.msg := rfl
@[simp] theorem State.build32_cap (r : Word) (k : BitVec 4) (j : BitVec 9) : (s.build32 r k j).cap = s.cap := rfl
@[simp] theorem State.build32_draws (r : Word) (k : BitVec 4) (j : BitVec 9) : (s.build32 r k j).draws = s.draws := rfl
@[simp] theorem State.build32_byteCount (r : Word) (k : BitVec 4) (j : BitVec 9) : (s.build32 r k j).byteCount = s.byteCount := rfl
@[simp] theorem State.build32_msgByte (r : Word) (k : BitVec 4) (j : BitVec 9) (x : Nat) : (s.build32 r k j).msgByte x = s.msgByte x := rfl
@[simp] theorem State.build32_msgBytes (r : Word) (k : BitVec 4) (j : BitVec 9) (x : Nat) : (s.build32 r k j).msgBytes x = s.msgBytes x := rfl

/-! ### `State.writeT16` -/

@[simp] theorem State.writeT16_presented (i : Nat) (v : Half) : (s.writeT16 i v).presented = s.presented := rfl
@[simp] theorem State.writeT16_cmd (i : Nat) (v : Half) : (s.writeT16 i v).cmd = s.cmd := rfl
@[simp] theorem State.writeT16_arg (i : Nat) (v : Half) : (s.writeT16 i v).arg = s.arg := rfl
@[simp] theorem State.writeT16_len (i : Nat) (v : Half) : (s.writeT16 i v).len = s.len := rfl
@[simp] theorem State.writeT16_runCmd (i : Nat) (v : Half) : (s.writeT16 i v).runCmd = s.runCmd := rfl
@[simp] theorem State.writeT16_runArg (i : Nat) (v : Half) : (s.writeT16 i v).runArg = s.runArg := rfl
@[simp] theorem State.writeT16_runLen (i : Nat) (v : Half) : (s.writeT16 i v).runLen = s.runLen := rfl
@[simp] theorem State.writeT16_phase (i : Nat) (v : Half) : (s.writeT16 i v).phase = s.phase := rfl
@[simp] theorem State.writeT16_r16 (i : Nat) (v : Half) : (s.writeT16 i v).r16 = s.r16 := rfl
@[simp] theorem State.writeT16_r32 (i : Nat) (v : Half) : (s.writeT16 i v).r32 = s.r32 := rfl
@[simp] theorem State.writeT16_b32 (i : Nat) (v : Half) : (s.writeT16 i v).b32 = s.b32 := rfl
@[simp] theorem State.writeT16_idx (i : Nat) (v : Half) : (s.writeT16 i v).idx = s.idx := rfl
@[simp] theorem State.writeT16_rnd (i : Nat) (v : Half) : (s.writeT16 i v).rnd = s.rnd := rfl
@[simp] theorem State.writeT16_tidx (i : Nat) (v : Half) : (s.writeT16 i v).tidx = s.tidx := rfl
@[simp] theorem State.writeT16_busy (i : Nat) (v : Half) : (s.writeT16 i v).busy = s.busy := rfl
@[simp] theorem State.writeT16_t16v (i : Nat) (v : Half) : (s.writeT16 i v).t16v = s.t16v := rfl
@[simp] theorem State.writeT16_t32v (i : Nat) (v : Half) : (s.writeT16 i v).t32v = s.t32v := rfl
@[simp] theorem State.writeT16_rv (i : Nat) (v : Half) : (s.writeT16 i v).rv = s.rv := rfl
@[simp] theorem State.writeT16_err (i : Nat) (v : Half) : (s.writeT16 i v).err = s.err := rfl
@[simp] theorem State.writeT16_res (i : Nat) (v : Half) : (s.writeT16 i v).res = s.res := rfl
@[simp] theorem State.writeT16_t16 (i : Nat) (v : Half) : (s.writeT16 i v).t16 = s.t16.setIfInBounds i v := rfl
@[simp] theorem State.writeT16_t32 (i : Nat) (v : Half) : (s.writeT16 i v).t32 = s.t32 := rfl
@[simp] theorem State.writeT16_msg (i : Nat) (v : Half) : (s.writeT16 i v).msg = s.msg := rfl
@[simp] theorem State.writeT16_cap (i : Nat) (v : Half) : (s.writeT16 i v).cap = s.cap := rfl
@[simp] theorem State.writeT16_draws (i : Nat) (v : Half) : (s.writeT16 i v).draws = s.draws := rfl
@[simp] theorem State.writeT16_byteCount (i : Nat) (v : Half) : (s.writeT16 i v).byteCount = s.byteCount := rfl
@[simp] theorem State.writeT16_msgByte (i : Nat) (v : Half) (x : Nat) : (s.writeT16 i v).msgByte x = s.msgByte x := rfl
@[simp] theorem State.writeT16_msgBytes (i : Nat) (v : Half) (x : Nat) : (s.writeT16 i v).msgBytes x = s.msgBytes x := rfl

/-! ### `State.writeT32` -/

@[simp] theorem State.writeT32_presented (i : Nat) (v : Word) : (s.writeT32 i v).presented = s.presented := rfl
@[simp] theorem State.writeT32_cmd (i : Nat) (v : Word) : (s.writeT32 i v).cmd = s.cmd := rfl
@[simp] theorem State.writeT32_arg (i : Nat) (v : Word) : (s.writeT32 i v).arg = s.arg := rfl
@[simp] theorem State.writeT32_len (i : Nat) (v : Word) : (s.writeT32 i v).len = s.len := rfl
@[simp] theorem State.writeT32_runCmd (i : Nat) (v : Word) : (s.writeT32 i v).runCmd = s.runCmd := rfl
@[simp] theorem State.writeT32_runArg (i : Nat) (v : Word) : (s.writeT32 i v).runArg = s.runArg := rfl
@[simp] theorem State.writeT32_runLen (i : Nat) (v : Word) : (s.writeT32 i v).runLen = s.runLen := rfl
@[simp] theorem State.writeT32_phase (i : Nat) (v : Word) : (s.writeT32 i v).phase = s.phase := rfl
@[simp] theorem State.writeT32_r16 (i : Nat) (v : Word) : (s.writeT32 i v).r16 = s.r16 := rfl
@[simp] theorem State.writeT32_r32 (i : Nat) (v : Word) : (s.writeT32 i v).r32 = s.r32 := rfl
@[simp] theorem State.writeT32_b32 (i : Nat) (v : Word) : (s.writeT32 i v).b32 = s.b32 := rfl
@[simp] theorem State.writeT32_idx (i : Nat) (v : Word) : (s.writeT32 i v).idx = s.idx := rfl
@[simp] theorem State.writeT32_rnd (i : Nat) (v : Word) : (s.writeT32 i v).rnd = s.rnd := rfl
@[simp] theorem State.writeT32_tidx (i : Nat) (v : Word) : (s.writeT32 i v).tidx = s.tidx := rfl
@[simp] theorem State.writeT32_busy (i : Nat) (v : Word) : (s.writeT32 i v).busy = s.busy := rfl
@[simp] theorem State.writeT32_t16v (i : Nat) (v : Word) : (s.writeT32 i v).t16v = s.t16v := rfl
@[simp] theorem State.writeT32_t32v (i : Nat) (v : Word) : (s.writeT32 i v).t32v = s.t32v := rfl
@[simp] theorem State.writeT32_rv (i : Nat) (v : Word) : (s.writeT32 i v).rv = s.rv := rfl
@[simp] theorem State.writeT32_err (i : Nat) (v : Word) : (s.writeT32 i v).err = s.err := rfl
@[simp] theorem State.writeT32_res (i : Nat) (v : Word) : (s.writeT32 i v).res = s.res := rfl
@[simp] theorem State.writeT32_t16 (i : Nat) (v : Word) : (s.writeT32 i v).t16 = s.t16 := rfl
@[simp] theorem State.writeT32_t32 (i : Nat) (v : Word) : (s.writeT32 i v).t32 = s.t32.setIfInBounds i v := rfl
@[simp] theorem State.writeT32_msg (i : Nat) (v : Word) : (s.writeT32 i v).msg = s.msg := rfl
@[simp] theorem State.writeT32_cap (i : Nat) (v : Word) : (s.writeT32 i v).cap = s.cap := rfl
@[simp] theorem State.writeT32_draws (i : Nat) (v : Word) : (s.writeT32 i v).draws = s.draws := rfl
@[simp] theorem State.writeT32_byteCount (i : Nat) (v : Word) : (s.writeT32 i v).byteCount = s.byteCount := rfl
@[simp] theorem State.writeT32_msgByte (i : Nat) (v : Word) (x : Nat) : (s.writeT32 i v).msgByte x = s.msgByte x := rfl
@[simp] theorem State.writeT32_msgBytes (i : Nat) (v : Word) (x : Nat) : (s.writeT32 i v).msgBytes x = s.msgBytes x := rfl

/-! ### `State.valid16` -/

@[simp] theorem State.valid16_presented : s.valid16.presented = s.presented := rfl
@[simp] theorem State.valid16_cmd : s.valid16.cmd = s.cmd := rfl
@[simp] theorem State.valid16_arg : s.valid16.arg = s.arg := rfl
@[simp] theorem State.valid16_len : s.valid16.len = s.len := rfl
@[simp] theorem State.valid16_runCmd : s.valid16.runCmd = s.runCmd := rfl
@[simp] theorem State.valid16_runArg : s.valid16.runArg = s.runArg := rfl
@[simp] theorem State.valid16_runLen : s.valid16.runLen = s.runLen := rfl
@[simp] theorem State.valid16_phase : s.valid16.phase = s.phase := rfl
@[simp] theorem State.valid16_r16 : s.valid16.r16 = s.r16 := rfl
@[simp] theorem State.valid16_r32 : s.valid16.r32 = s.r32 := rfl
@[simp] theorem State.valid16_b32 : s.valid16.b32 = s.b32 := rfl
@[simp] theorem State.valid16_idx : s.valid16.idx = s.idx := rfl
@[simp] theorem State.valid16_rnd : s.valid16.rnd = s.rnd := rfl
@[simp] theorem State.valid16_tidx : s.valid16.tidx = s.tidx := rfl
@[simp] theorem State.valid16_busy : s.valid16.busy = s.busy := rfl
@[simp] theorem State.valid16_t16v : s.valid16.t16v = true := rfl
@[simp] theorem State.valid16_t32v : s.valid16.t32v = s.t32v := rfl
@[simp] theorem State.valid16_rv : s.valid16.rv = s.rv := rfl
@[simp] theorem State.valid16_err : s.valid16.err = s.err := rfl
@[simp] theorem State.valid16_res : s.valid16.res = s.res := rfl
@[simp] theorem State.valid16_t16 : s.valid16.t16 = s.t16 := rfl
@[simp] theorem State.valid16_t32 : s.valid16.t32 = s.t32 := rfl
@[simp] theorem State.valid16_msg : s.valid16.msg = s.msg := rfl
@[simp] theorem State.valid16_cap : s.valid16.cap = s.cap := rfl
@[simp] theorem State.valid16_draws : s.valid16.draws = s.draws := rfl
@[simp] theorem State.valid16_byteCount : s.valid16.byteCount = s.byteCount := rfl
@[simp] theorem State.valid16_msgByte (x : Nat) : s.valid16.msgByte x = s.msgByte x := rfl
@[simp] theorem State.valid16_msgBytes (x : Nat) : s.valid16.msgBytes x = s.msgBytes x := rfl

/-! ### `State.valid32` -/

@[simp] theorem State.valid32_presented : s.valid32.presented = s.presented := rfl
@[simp] theorem State.valid32_cmd : s.valid32.cmd = s.cmd := rfl
@[simp] theorem State.valid32_arg : s.valid32.arg = s.arg := rfl
@[simp] theorem State.valid32_len : s.valid32.len = s.len := rfl
@[simp] theorem State.valid32_runCmd : s.valid32.runCmd = s.runCmd := rfl
@[simp] theorem State.valid32_runArg : s.valid32.runArg = s.runArg := rfl
@[simp] theorem State.valid32_runLen : s.valid32.runLen = s.runLen := rfl
@[simp] theorem State.valid32_phase : s.valid32.phase = s.phase := rfl
@[simp] theorem State.valid32_r16 : s.valid32.r16 = s.r16 := rfl
@[simp] theorem State.valid32_r32 : s.valid32.r32 = s.r32 := rfl
@[simp] theorem State.valid32_b32 : s.valid32.b32 = s.b32 := rfl
@[simp] theorem State.valid32_idx : s.valid32.idx = s.idx := rfl
@[simp] theorem State.valid32_rnd : s.valid32.rnd = s.rnd := rfl
@[simp] theorem State.valid32_tidx : s.valid32.tidx = s.tidx := rfl
@[simp] theorem State.valid32_busy : s.valid32.busy = s.busy := rfl
@[simp] theorem State.valid32_t16v : s.valid32.t16v = s.t16v := rfl
@[simp] theorem State.valid32_t32v : s.valid32.t32v = true := rfl
@[simp] theorem State.valid32_rv : s.valid32.rv = s.rv := rfl
@[simp] theorem State.valid32_err : s.valid32.err = s.err := rfl
@[simp] theorem State.valid32_res : s.valid32.res = s.res := rfl
@[simp] theorem State.valid32_t16 : s.valid32.t16 = s.t16 := rfl
@[simp] theorem State.valid32_t32 : s.valid32.t32 = s.t32 := rfl
@[simp] theorem State.valid32_msg : s.valid32.msg = s.msg := rfl
@[simp] theorem State.valid32_cap : s.valid32.cap = s.cap := rfl
@[simp] theorem State.valid32_draws : s.valid32.draws = s.draws := rfl
@[simp] theorem State.valid32_byteCount : s.valid32.byteCount = s.byteCount := rfl
@[simp] theorem State.valid32_msgByte (x : Nat) : s.valid32.msgByte x = s.msgByte x := rfl
@[simp] theorem State.valid32_msgBytes (x : Nat) : s.valid32.msgBytes x = s.msgBytes x := rfl

/-! ### `State.accept` -/

@[simp] theorem State.accept_presented : s.accept.presented = false := rfl
@[simp] theorem State.accept_cmd : s.accept.cmd = s.cmd := rfl
@[simp] theorem State.accept_arg : s.accept.arg = s.arg := rfl
@[simp] theorem State.accept_len : s.accept.len = s.len := rfl
@[simp] theorem State.accept_runCmd : s.accept.runCmd = s.cmd := rfl
@[simp] theorem State.accept_runArg : s.accept.runArg = s.arg := rfl
@[simp] theorem State.accept_runLen : s.accept.runLen = s.len := rfl
@[simp] theorem State.accept_phase : s.accept.phase = .start := rfl
@[simp] theorem State.accept_r16 : s.accept.r16 = s.r16 := rfl
@[simp] theorem State.accept_r32 : s.accept.r32 = s.r32 := rfl
@[simp] theorem State.accept_b32 : s.accept.b32 = s.b32 := rfl
@[simp] theorem State.accept_idx : s.accept.idx = s.idx := rfl
@[simp] theorem State.accept_rnd : s.accept.rnd = s.rnd := rfl
@[simp] theorem State.accept_tidx : s.accept.tidx = s.tidx := rfl
@[simp] theorem State.accept_busy : s.accept.busy = true := rfl
@[simp] theorem State.accept_t16v : s.accept.t16v = s.t16v := rfl
@[simp] theorem State.accept_t32v : s.accept.t32v = s.t32v := rfl
@[simp] theorem State.accept_rv : s.accept.rv = false := rfl
@[simp] theorem State.accept_err : s.accept.err = 0 := rfl
@[simp] theorem State.accept_res : s.accept.res = s.res := rfl
@[simp] theorem State.accept_t16 : s.accept.t16 = s.t16 := rfl
@[simp] theorem State.accept_t32 : s.accept.t32 = s.t32 := rfl
@[simp] theorem State.accept_msg : s.accept.msg = s.msg := rfl
@[simp] theorem State.accept_cap : s.accept.cap = s.cap := rfl
@[simp] theorem State.accept_draws : s.accept.draws = s.draws := rfl
@[simp] theorem State.accept_msgByte (x : Nat) : s.accept.msgByte x = s.msgByte x := rfl
@[simp] theorem State.accept_msgBytes (x : Nat) : s.accept.msgBytes x = s.msgBytes x := rfl

/-! ### `State.completeWith` -/

@[simp] theorem State.completeWith_presented (v : Word) : (s.completeWith v).presented = s.presented := rfl
@[simp] theorem State.completeWith_cmd (v : Word) : (s.completeWith v).cmd = s.cmd := rfl
@[simp] theorem State.completeWith_arg (v : Word) : (s.completeWith v).arg = s.arg := rfl
@[simp] theorem State.completeWith_len (v : Word) : (s.completeWith v).len = s.len := rfl
@[simp] theorem State.completeWith_runCmd (v : Word) : (s.completeWith v).runCmd = s.runCmd := rfl
@[simp] theorem State.completeWith_runArg (v : Word) : (s.completeWith v).runArg = s.runArg := rfl
@[simp] theorem State.completeWith_runLen (v : Word) : (s.completeWith v).runLen = s.runLen := rfl
@[simp] theorem State.completeWith_phase (v : Word) : (s.completeWith v).phase = .start := rfl
@[simp] theorem State.completeWith_r16 (v : Word) : (s.completeWith v).r16 = s.r16 := rfl
@[simp] theorem State.completeWith_r32 (v : Word) : (s.completeWith v).r32 = s.r32 := rfl
@[simp] theorem State.completeWith_b32 (v : Word) : (s.completeWith v).b32 = s.b32 := rfl
@[simp] theorem State.completeWith_idx (v : Word) : (s.completeWith v).idx = s.idx := rfl
@[simp] theorem State.completeWith_rnd (v : Word) : (s.completeWith v).rnd = s.rnd := rfl
@[simp] theorem State.completeWith_tidx (v : Word) : (s.completeWith v).tidx = s.tidx := rfl
@[simp] theorem State.completeWith_busy (v : Word) : (s.completeWith v).busy = false := rfl
@[simp] theorem State.completeWith_t16v (v : Word) : (s.completeWith v).t16v = s.t16v := rfl
@[simp] theorem State.completeWith_t32v (v : Word) : (s.completeWith v).t32v = s.t32v := rfl
@[simp] theorem State.completeWith_rv (v : Word) : (s.completeWith v).rv = true := rfl
@[simp] theorem State.completeWith_err (v : Word) : (s.completeWith v).err = s.err := rfl
@[simp] theorem State.completeWith_res (v : Word) : (s.completeWith v).res = v := rfl
@[simp] theorem State.completeWith_t16 (v : Word) : (s.completeWith v).t16 = s.t16 := rfl
@[simp] theorem State.completeWith_t32 (v : Word) : (s.completeWith v).t32 = s.t32 := rfl
@[simp] theorem State.completeWith_msg (v : Word) : (s.completeWith v).msg = s.msg := rfl
@[simp] theorem State.completeWith_cap (v : Word) : (s.completeWith v).cap = s.cap := rfl
@[simp] theorem State.completeWith_draws (v : Word) : (s.completeWith v).draws = s.draws := rfl
@[simp] theorem State.completeWith_byteCount (v : Word) : (s.completeWith v).byteCount = s.byteCount := rfl
@[simp] theorem State.completeWith_msgByte (v : Word) (x : Nat) : (s.completeWith v).msgByte x = s.msgByte x := rfl
@[simp] theorem State.completeWith_msgBytes (v : Word) (x : Nat) : (s.completeWith v).msgBytes x = s.msgBytes x := rfl

/-! ### `State.completeSilent` -/

@[simp] theorem State.completeSilent_presented : s.completeSilent.presented = s.presented := rfl
@[simp] theorem State.completeSilent_cmd : s.completeSilent.cmd = s.cmd := rfl
@[simp] theorem State.completeSilent_arg : s.completeSilent.arg = s.arg := rfl
@[simp] theorem State.completeSilent_len : s.completeSilent.len = s.len := rfl
@[simp] theorem State.completeSilent_runCmd : s.completeSilent.runCmd = s.runCmd := rfl
@[simp] theorem State.completeSilent_runArg : s.completeSilent.runArg = s.runArg := rfl
@[simp] theorem State.completeSilent_runLen : s.completeSilent.runLen = s.runLen := rfl
@[simp] theorem State.completeSilent_phase : s.completeSilent.phase = .start := rfl
@[simp] theorem State.completeSilent_r16 : s.completeSilent.r16 = s.r16 := rfl
@[simp] theorem State.completeSilent_r32 : s.completeSilent.r32 = s.r32 := rfl
@[simp] theorem State.completeSilent_b32 : s.completeSilent.b32 = s.b32 := rfl
@[simp] theorem State.completeSilent_idx : s.completeSilent.idx = s.idx := rfl
@[simp] theorem State.completeSilent_rnd : s.completeSilent.rnd = s.rnd := rfl
@[simp] theorem State.completeSilent_tidx : s.completeSilent.tidx = s.tidx := rfl
@[simp] theorem State.completeSilent_busy : s.completeSilent.busy = false := rfl
@[simp] theorem State.completeSilent_t16v : s.completeSilent.t16v = s.t16v := rfl
@[simp] theorem State.completeSilent_t32v : s.completeSilent.t32v = s.t32v := rfl
@[simp] theorem State.completeSilent_rv : s.completeSilent.rv = s.rv := rfl
@[simp] theorem State.completeSilent_err : s.completeSilent.err = s.err := rfl
@[simp] theorem State.completeSilent_res : s.completeSilent.res = s.res := rfl
@[simp] theorem State.completeSilent_t16 : s.completeSilent.t16 = s.t16 := rfl
@[simp] theorem State.completeSilent_t32 : s.completeSilent.t32 = s.t32 := rfl
@[simp] theorem State.completeSilent_msg : s.completeSilent.msg = s.msg := rfl
@[simp] theorem State.completeSilent_cap : s.completeSilent.cap = s.cap := rfl
@[simp] theorem State.completeSilent_draws : s.completeSilent.draws = s.draws := rfl
@[simp] theorem State.completeSilent_byteCount : s.completeSilent.byteCount = s.byteCount := rfl
@[simp] theorem State.completeSilent_msgByte (x : Nat) : s.completeSilent.msgByte x = s.msgByte x := rfl
@[simp] theorem State.completeSilent_msgBytes (x : Nat) : s.completeSilent.msgBytes x = s.msgBytes x := rfl

/-! ### `State.raiseFault` -/

@[simp] theorem State.raiseFault_presented (f : CmdFault) : (s.raiseFault f).presented = s.presented := rfl
@[simp] theorem State.raiseFault_cmd (f : CmdFault) : (s.raiseFault f).cmd = s.cmd := rfl
@[simp] theorem State.raiseFault_arg (f : CmdFault) : (s.raiseFault f).arg = s.arg := rfl
@[simp] theorem State.raiseFault_len (f : CmdFault) : (s.raiseFault f).len = s.len := rfl
@[simp] theorem State.raiseFault_runCmd (f : CmdFault) : (s.raiseFault f).runCmd = s.runCmd := rfl
@[simp] theorem State.raiseFault_runArg (f : CmdFault) : (s.raiseFault f).runArg = s.runArg := rfl
@[simp] theorem State.raiseFault_runLen (f : CmdFault) : (s.raiseFault f).runLen = s.runLen := rfl
@[simp] theorem State.raiseFault_phase (f : CmdFault) : (s.raiseFault f).phase = .start := rfl
@[simp] theorem State.raiseFault_r16 (f : CmdFault) : (s.raiseFault f).r16 = Config.freeR16 s.draws := rfl
@[simp] theorem State.raiseFault_r32 (f : CmdFault) : (s.raiseFault f).r32 = Config.freeR32 s.draws := rfl
@[simp] theorem State.raiseFault_b32 (f : CmdFault) : (s.raiseFault f).b32 = Config.freeB32 s.draws := rfl
@[simp] theorem State.raiseFault_idx (f : CmdFault) : (s.raiseFault f).idx = Config.freeIdx s.draws := rfl
@[simp] theorem State.raiseFault_rnd (f : CmdFault) : (s.raiseFault f).rnd = Config.freeRnd s.draws := rfl
@[simp] theorem State.raiseFault_tidx (f : CmdFault) : (s.raiseFault f).tidx = Config.freeTidx s.draws := rfl
@[simp] theorem State.raiseFault_busy (f : CmdFault) : (s.raiseFault f).busy = false := rfl
@[simp] theorem State.raiseFault_t16v (f : CmdFault) : (s.raiseFault f).t16v = s.t16v := rfl
@[simp] theorem State.raiseFault_t32v (f : CmdFault) : (s.raiseFault f).t32v = s.t32v := rfl
@[simp] theorem State.raiseFault_rv (f : CmdFault) : (s.raiseFault f).rv = s.rv := rfl
@[simp] theorem State.raiseFault_err (f : CmdFault) : (s.raiseFault f).err = f.code := rfl
@[simp] theorem State.raiseFault_res (f : CmdFault) : (s.raiseFault f).res = s.res := rfl
@[simp] theorem State.raiseFault_t16 (f : CmdFault) : (s.raiseFault f).t16 = s.t16 := rfl
@[simp] theorem State.raiseFault_t32 (f : CmdFault) : (s.raiseFault f).t32 = s.t32 := rfl
@[simp] theorem State.raiseFault_msg (f : CmdFault) : (s.raiseFault f).msg = s.msg := rfl
@[simp] theorem State.raiseFault_cap (f : CmdFault) : (s.raiseFault f).cap = s.cap := rfl
@[simp] theorem State.raiseFault_draws (f : CmdFault) : (s.raiseFault f).draws = s.draws + 1 := rfl
@[simp] theorem State.raiseFault_byteCount (f : CmdFault) : (s.raiseFault f).byteCount = s.byteCount := rfl
@[simp] theorem State.raiseFault_msgByte (f : CmdFault) (x : Nat) : (s.raiseFault f).msgByte x = s.msgByte x := rfl
@[simp] theorem State.raiseFault_msgBytes (f : CmdFault) (x : Nat) : (s.raiseFault f).msgBytes x = s.msgBytes x := rfl

/-! ### `State.applyReset` -/

@[simp] theorem State.applyReset_presented : s.applyReset.presented = s.presented := rfl
@[simp] theorem State.applyReset_cmd : s.applyReset.cmd = s.cmd := rfl
@[simp] theorem State.applyReset_arg : s.applyReset.arg = s.arg := rfl
@[simp] theorem State.applyReset_len : s.applyReset.len = s.len := rfl
@[simp] theorem State.applyReset_runCmd : s.applyReset.runCmd = 0 := rfl
@[simp] theorem State.applyReset_runArg : s.applyReset.runArg = 0 := rfl
@[simp] theorem State.applyReset_runLen : s.applyReset.runLen = 0 := rfl
@[simp] theorem State.applyReset_phase : s.applyReset.phase = .start := rfl
@[simp] theorem State.applyReset_r16 : s.applyReset.r16 = 0 := rfl
@[simp] theorem State.applyReset_r32 : s.applyReset.r32 = 0 := rfl
@[simp] theorem State.applyReset_b32 : s.applyReset.b32 = 0 := rfl
@[simp] theorem State.applyReset_idx : s.applyReset.idx = 0 := rfl
@[simp] theorem State.applyReset_rnd : s.applyReset.rnd = 0 := rfl
@[simp] theorem State.applyReset_tidx : s.applyReset.tidx = 0 := rfl
@[simp] theorem State.applyReset_busy : s.applyReset.busy = false := rfl
@[simp] theorem State.applyReset_t16v : s.applyReset.t16v = false := rfl
@[simp] theorem State.applyReset_t32v : s.applyReset.t32v = false := rfl
@[simp] theorem State.applyReset_rv : s.applyReset.rv = false := rfl
@[simp] theorem State.applyReset_err : s.applyReset.err = 0 := rfl
@[simp] theorem State.applyReset_res : s.applyReset.res = 0 := rfl
@[simp] theorem State.applyReset_t16 : s.applyReset.t16 = Vector.replicate 256 0 := rfl
@[simp] theorem State.applyReset_t32 : s.applyReset.t32 = Vector.replicate 256 0 := rfl
@[simp] theorem State.applyReset_msg : s.applyReset.msg = s.msg := rfl
@[simp] theorem State.applyReset_cap : s.applyReset.cap = s.cap := rfl
@[simp] theorem State.applyReset_draws : s.applyReset.draws = s.draws := rfl
@[simp] theorem State.applyReset_msgByte (x : Nat) : s.applyReset.msgByte x = s.msgByte x := rfl
@[simp] theorem State.applyReset_msgBytes (x : Nat) : s.applyReset.msgBytes x = s.msgBytes x := rfl

/-! ### `State.issue` -/

@[simp] theorem State.issue_presented (c : Byte) (a n : Word) : (s.issue c a n).presented = true := rfl
@[simp] theorem State.issue_cmd (c : Byte) (a n : Word) : (s.issue c a n).cmd = c := rfl
@[simp] theorem State.issue_arg (c : Byte) (a n : Word) : (s.issue c a n).arg = a := rfl
@[simp] theorem State.issue_len (c : Byte) (a n : Word) : (s.issue c a n).len = n := rfl
@[simp] theorem State.issue_runCmd (c : Byte) (a n : Word) : (s.issue c a n).runCmd = s.runCmd := rfl
@[simp] theorem State.issue_runArg (c : Byte) (a n : Word) : (s.issue c a n).runArg = s.runArg := rfl
@[simp] theorem State.issue_runLen (c : Byte) (a n : Word) : (s.issue c a n).runLen = s.runLen := rfl
@[simp] theorem State.issue_phase (c : Byte) (a n : Word) : (s.issue c a n).phase = s.phase := rfl
@[simp] theorem State.issue_r16 (c : Byte) (a n : Word) : (s.issue c a n).r16 = s.r16 := rfl
@[simp] theorem State.issue_r32 (c : Byte) (a n : Word) : (s.issue c a n).r32 = s.r32 := rfl
@[simp] theorem State.issue_b32 (c : Byte) (a n : Word) : (s.issue c a n).b32 = s.b32 := rfl
@[simp] theorem State.issue_idx (c : Byte) (a n : Word) : (s.issue c a n).idx = s.idx := rfl
@[simp] theorem State.issue_rnd (c : Byte) (a n : Word) : (s.issue c a n).rnd = s.rnd := rfl
@[simp] theorem State.issue_tidx (c : Byte) (a n : Word) : (s.issue c a n).tidx = s.tidx := rfl
@[simp] theorem State.issue_busy (c : Byte) (a n : Word) : (s.issue c a n).busy = s.busy := rfl
@[simp] theorem State.issue_t16v (c : Byte) (a n : Word) : (s.issue c a n).t16v = s.t16v := rfl
@[simp] theorem State.issue_t32v (c : Byte) (a n : Word) : (s.issue c a n).t32v = s.t32v := rfl
@[simp] theorem State.issue_rv (c : Byte) (a n : Word) : (s.issue c a n).rv = s.rv := rfl
@[simp] theorem State.issue_err (c : Byte) (a n : Word) : (s.issue c a n).err = s.err := rfl
@[simp] theorem State.issue_res (c : Byte) (a n : Word) : (s.issue c a n).res = s.res := rfl
@[simp] theorem State.issue_t16 (c : Byte) (a n : Word) : (s.issue c a n).t16 = s.t16 := rfl
@[simp] theorem State.issue_t32 (c : Byte) (a n : Word) : (s.issue c a n).t32 = s.t32 := rfl
@[simp] theorem State.issue_msg (c : Byte) (a n : Word) : (s.issue c a n).msg = s.msg := rfl
@[simp] theorem State.issue_cap (c : Byte) (a n : Word) : (s.issue c a n).cap = s.cap := rfl
@[simp] theorem State.issue_draws (c : Byte) (a n : Word) : (s.issue c a n).draws = s.draws := rfl
@[simp] theorem State.issue_byteCount (c : Byte) (a n : Word) : (s.issue c a n).byteCount = s.byteCount := rfl
@[simp] theorem State.issue_msgByte (c : Byte) (a n : Word) (x : Nat) : (s.issue c a n).msgByte x = s.msgByte x := rfl
@[simp] theorem State.issue_msgBytes (c : Byte) (a n : Word) (x : Nat) : (s.issue c a n).msgBytes x = s.msgBytes x := rfl

/-! ### `State.withdraw` -/

@[simp] theorem State.withdraw_presented : s.withdraw.presented = false := rfl
@[simp] theorem State.withdraw_cmd : s.withdraw.cmd = s.cmd := rfl
@[simp] theorem State.withdraw_arg : s.withdraw.arg = s.arg := rfl
@[simp] theorem State.withdraw_len : s.withdraw.len = s.len := rfl
@[simp] theorem State.withdraw_runCmd : s.withdraw.runCmd = s.runCmd := rfl
@[simp] theorem State.withdraw_runArg : s.withdraw.runArg = s.runArg := rfl
@[simp] theorem State.withdraw_runLen : s.withdraw.runLen = s.runLen := rfl
@[simp] theorem State.withdraw_phase : s.withdraw.phase = s.phase := rfl
@[simp] theorem State.withdraw_r16 : s.withdraw.r16 = s.r16 := rfl
@[simp] theorem State.withdraw_r32 : s.withdraw.r32 = s.r32 := rfl
@[simp] theorem State.withdraw_b32 : s.withdraw.b32 = s.b32 := rfl
@[simp] theorem State.withdraw_idx : s.withdraw.idx = s.idx := rfl
@[simp] theorem State.withdraw_rnd : s.withdraw.rnd = s.rnd := rfl
@[simp] theorem State.withdraw_tidx : s.withdraw.tidx = s.tidx := rfl
@[simp] theorem State.withdraw_busy : s.withdraw.busy = s.busy := rfl
@[simp] theorem State.withdraw_t16v : s.withdraw.t16v = s.t16v := rfl
@[simp] theorem State.withdraw_t32v : s.withdraw.t32v = s.t32v := rfl
@[simp] theorem State.withdraw_rv : s.withdraw.rv = s.rv := rfl
@[simp] theorem State.withdraw_err : s.withdraw.err = s.err := rfl
@[simp] theorem State.withdraw_res : s.withdraw.res = s.res := rfl
@[simp] theorem State.withdraw_t16 : s.withdraw.t16 = s.t16 := rfl
@[simp] theorem State.withdraw_t32 : s.withdraw.t32 = s.t32 := rfl
@[simp] theorem State.withdraw_msg : s.withdraw.msg = s.msg := rfl
@[simp] theorem State.withdraw_cap : s.withdraw.cap = s.cap := rfl
@[simp] theorem State.withdraw_draws : s.withdraw.draws = s.draws := rfl
@[simp] theorem State.withdraw_byteCount : s.withdraw.byteCount = s.byteCount := rfl
@[simp] theorem State.withdraw_msgByte (x : Nat) : s.withdraw.msgByte x = s.msgByte x := rfl
@[simp] theorem State.withdraw_msgBytes (x : Nat) : s.withdraw.msgBytes x = s.msgBytes x := rfl

/-! ### `State.putMsg` -/

@[simp] theorem State.putMsg_presented (a : Nat) (b : Byte) : (s.putMsg a b).presented = s.presented := rfl
@[simp] theorem State.putMsg_cmd (a : Nat) (b : Byte) : (s.putMsg a b).cmd = s.cmd := rfl
@[simp] theorem State.putMsg_arg (a : Nat) (b : Byte) : (s.putMsg a b).arg = s.arg := rfl
@[simp] theorem State.putMsg_len (a : Nat) (b : Byte) : (s.putMsg a b).len = s.len := rfl
@[simp] theorem State.putMsg_runCmd (a : Nat) (b : Byte) : (s.putMsg a b).runCmd = s.runCmd := rfl
@[simp] theorem State.putMsg_runArg (a : Nat) (b : Byte) : (s.putMsg a b).runArg = s.runArg := rfl
@[simp] theorem State.putMsg_runLen (a : Nat) (b : Byte) : (s.putMsg a b).runLen = s.runLen := rfl
@[simp] theorem State.putMsg_phase (a : Nat) (b : Byte) : (s.putMsg a b).phase = s.phase := rfl
@[simp] theorem State.putMsg_r16 (a : Nat) (b : Byte) : (s.putMsg a b).r16 = s.r16 := rfl
@[simp] theorem State.putMsg_r32 (a : Nat) (b : Byte) : (s.putMsg a b).r32 = s.r32 := rfl
@[simp] theorem State.putMsg_b32 (a : Nat) (b : Byte) : (s.putMsg a b).b32 = s.b32 := rfl
@[simp] theorem State.putMsg_idx (a : Nat) (b : Byte) : (s.putMsg a b).idx = s.idx := rfl
@[simp] theorem State.putMsg_rnd (a : Nat) (b : Byte) : (s.putMsg a b).rnd = s.rnd := rfl
@[simp] theorem State.putMsg_tidx (a : Nat) (b : Byte) : (s.putMsg a b).tidx = s.tidx := rfl
@[simp] theorem State.putMsg_busy (a : Nat) (b : Byte) : (s.putMsg a b).busy = s.busy := rfl
@[simp] theorem State.putMsg_t16v (a : Nat) (b : Byte) : (s.putMsg a b).t16v = s.t16v := rfl
@[simp] theorem State.putMsg_t32v (a : Nat) (b : Byte) : (s.putMsg a b).t32v = s.t32v := rfl
@[simp] theorem State.putMsg_rv (a : Nat) (b : Byte) : (s.putMsg a b).rv = s.rv := rfl
@[simp] theorem State.putMsg_err (a : Nat) (b : Byte) : (s.putMsg a b).err = s.err := rfl
@[simp] theorem State.putMsg_res (a : Nat) (b : Byte) : (s.putMsg a b).res = s.res := rfl
@[simp] theorem State.putMsg_t16 (a : Nat) (b : Byte) : (s.putMsg a b).t16 = s.t16 := rfl
@[simp] theorem State.putMsg_t32 (a : Nat) (b : Byte) : (s.putMsg a b).t32 = s.t32 := rfl
@[simp] theorem State.putMsg_msg (a : Nat) (b : Byte) : (s.putMsg a b).msg = Memory.set s.msg a b := rfl
@[simp] theorem State.putMsg_cap (a : Nat) (b : Byte) : (s.putMsg a b).cap = s.cap := rfl
@[simp] theorem State.putMsg_draws (a : Nat) (b : Byte) : (s.putMsg a b).draws = s.draws := rfl
@[simp] theorem State.putMsg_byteCount (a : Nat) (b : Byte) : (s.putMsg a b).byteCount = s.byteCount := rfl

end Sys2Proof.Machine
end

