-- ==== Sys2Proof/Laws/Parts.lean ====
section
/-! SUPPORT. One lemma for each field of `State` under each part of a command's transaction: the builds,
the message loops and the ends of the engines. -/

namespace Sys2Proof.Machine

variable (s : State)

/-! ### `State.fullBuild16` -/

@[simp] theorem State.fullBuild16_presented : s.fullBuild16.presented = s.presented := rfl
@[simp] theorem State.fullBuild16_cmd : s.fullBuild16.cmd = s.cmd := rfl
@[simp] theorem State.fullBuild16_arg : s.fullBuild16.arg = s.arg := rfl
@[simp] theorem State.fullBuild16_len : s.fullBuild16.len = s.len := rfl
@[simp] theorem State.fullBuild16_runCmd : s.fullBuild16.runCmd = s.runCmd := rfl
@[simp] theorem State.fullBuild16_runArg : s.fullBuild16.runArg = s.runArg := rfl
@[simp] theorem State.fullBuild16_runLen : s.fullBuild16.runLen = s.runLen := rfl
@[simp] theorem State.fullBuild16_phase : s.fullBuild16.phase = s.phase := rfl
@[simp] theorem State.fullBuild16_r16 : s.fullBuild16.r16 = entry16 255 := rfl
@[simp] theorem State.fullBuild16_r32 : s.fullBuild16.r32 = s.r32 := rfl
@[simp] theorem State.fullBuild16_b32 : s.fullBuild16.b32 = s.b32 := rfl
@[simp] theorem State.fullBuild16_idx : s.fullBuild16.idx = s.idx := rfl
@[simp] theorem State.fullBuild16_rnd : s.fullBuild16.rnd = 8 := rfl
@[simp] theorem State.fullBuild16_tidx : s.fullBuild16.tidx = 256 := rfl
@[simp] theorem State.fullBuild16_busy : s.fullBuild16.busy = s.busy := rfl
@[simp] theorem State.fullBuild16_t16v : s.fullBuild16.t16v = true := rfl
@[simp] theorem State.fullBuild16_t32v : s.fullBuild16.t32v = s.t32v := rfl
@[simp] theorem State.fullBuild16_rv : s.fullBuild16.rv = s.rv := rfl
@[simp] theorem State.fullBuild16_err : s.fullBuild16.err = s.err := rfl
@[simp] theorem State.fullBuild16_res : s.fullBuild16.res = s.res := rfl
@[simp] theorem State.fullBuild16_t16 : s.fullBuild16.t16 = table16 := rfl
@[simp] theorem State.fullBuild16_t32 : s.fullBuild16.t32 = s.t32 := rfl
@[simp] theorem State.fullBuild16_msg : s.fullBuild16.msg = s.msg := rfl
@[simp] theorem State.fullBuild16_cap : s.fullBuild16.cap = s.cap := rfl
@[simp] theorem State.fullBuild16_draws : s.fullBuild16.draws = s.draws := rfl
@[simp] theorem State.fullBuild16_byteCount : s.fullBuild16.byteCount = s.byteCount := rfl
@[simp] theorem State.fullBuild16_msgByte (x : Nat) : s.fullBuild16.msgByte x = s.msgByte x := rfl
@[simp] theorem State.fullBuild16_msgBytes (x : Nat) : s.fullBuild16.msgBytes x = s.msgBytes x := rfl

/-! ### `State.fullBuild32` -/

@[simp] theorem State.fullBuild32_presented : s.fullBuild32.presented = s.presented := rfl
@[simp] theorem State.fullBuild32_cmd : s.fullBuild32.cmd = s.cmd := rfl
@[simp] theorem State.fullBuild32_arg : s.fullBuild32.arg = s.arg := rfl
@[simp] theorem State.fullBuild32_len : s.fullBuild32.len = s.len := rfl
@[simp] theorem State.fullBuild32_runCmd : s.fullBuild32.runCmd = s.runCmd := rfl
@[simp] theorem State.fullBuild32_runArg : s.fullBuild32.runArg = s.runArg := rfl
@[simp] theorem State.fullBuild32_runLen : s.fullBuild32.runLen = s.runLen := rfl
@[simp] theorem State.fullBuild32_phase : s.fullBuild32.phase = s.phase := rfl
@[simp] theorem State.fullBuild32_r16 : s.fullBuild32.r16 = s.r16 := rfl
@[simp] theorem State.fullBuild32_r32 : s.fullBuild32.r32 = entry32 255 := rfl
@[simp] theorem State.fullBuild32_b32 : s.fullBuild32.b32 = s.b32 := rfl
@[simp] theorem State.fullBuild32_idx : s.fullBuild32.idx = s.idx := rfl
@[simp] theorem State.fullBuild32_rnd : s.fullBuild32.rnd = 8 := rfl
@[simp] theorem State.fullBuild32_tidx : s.fullBuild32.tidx = 256 := rfl
@[simp] theorem State.fullBuild32_busy : s.fullBuild32.busy = s.busy := rfl
@[simp] theorem State.fullBuild32_t16v : s.fullBuild32.t16v = s.t16v := rfl
@[simp] theorem State.fullBuild32_t32v : s.fullBuild32.t32v = true := rfl
@[simp] theorem State.fullBuild32_rv : s.fullBuild32.rv = s.rv := rfl
@[simp] theorem State.fullBuild32_err : s.fullBuild32.err = s.err := rfl
@[simp] theorem State.fullBuild32_res : s.fullBuild32.res = s.res := rfl
@[simp] theorem State.fullBuild32_t16 : s.fullBuild32.t16 = s.t16 := rfl
@[simp] theorem State.fullBuild32_t32 : s.fullBuild32.t32 = table32 := rfl
@[simp] theorem State.fullBuild32_msg : s.fullBuild32.msg = s.msg := rfl
@[simp] theorem State.fullBuild32_cap : s.fullBuild32.cap = s.cap := rfl
@[simp] theorem State.fullBuild32_draws : s.fullBuild32.draws = s.draws := rfl
@[simp] theorem State.fullBuild32_byteCount : s.fullBuild32.byteCount = s.byteCount := rfl
@[simp] theorem State.fullBuild32_msgByte (x : Nat) : s.fullBuild32.msgByte x = s.msgByte x := rfl
@[simp] theorem State.fullBuild32_msgBytes (x : Nat) : s.fullBuild32.msgBytes x = s.msgBytes x := rfl

/-! ### `State.lazyBuild16` -/

@[simp] theorem State.lazyBuild16_presented : s.lazyBuild16.presented = s.presented := by unfold State.lazyBuild16; split <;> rfl
@[simp] theorem State.lazyBuild16_cmd : s.lazyBuild16.cmd = s.cmd := by unfold State.lazyBuild16; split <;> rfl
@[simp] theorem State.lazyBuild16_arg : s.lazyBuild16.arg = s.arg := by unfold State.lazyBuild16; split <;> rfl
@[simp] theorem State.lazyBuild16_len : s.lazyBuild16.len = s.len := by unfold State.lazyBuild16; split <;> rfl
@[simp] theorem State.lazyBuild16_runCmd : s.lazyBuild16.runCmd = s.runCmd := by unfold State.lazyBuild16; split <;> rfl
@[simp] theorem State.lazyBuild16_runArg : s.lazyBuild16.runArg = s.runArg := by unfold State.lazyBuild16; split <;> rfl
@[simp] theorem State.lazyBuild16_runLen : s.lazyBuild16.runLen = s.runLen := by unfold State.lazyBuild16; split <;> rfl
@[simp] theorem State.lazyBuild16_phase : s.lazyBuild16.phase = s.phase := by unfold State.lazyBuild16; split <;> rfl
@[simp] theorem State.lazyBuild16_r16 : s.lazyBuild16.r16 = if s.t16v then s.r16 else entry16 255 := by unfold State.lazyBuild16; split <;> rfl
@[simp] theorem State.lazyBuild16_r32 : s.lazyBuild16.r32 = s.r32 := by unfold State.lazyBuild16; split <;> rfl
@[simp] theorem State.lazyBuild16_b32 : s.lazyBuild16.b32 = s.b32 := by unfold State.lazyBuild16; split <;> rfl
@[simp] theorem State.lazyBuild16_idx : s.lazyBuild16.idx = s.idx := by unfold State.lazyBuild16; split <;> rfl
@[simp] theorem State.lazyBuild16_rnd : s.lazyBuild16.rnd = if s.t16v then s.rnd else 8 := by unfold State.lazyBuild16; split <;> rfl
@[simp] theorem State.lazyBuild16_tidx : s.lazyBuild16.tidx = if s.t16v then s.tidx else 256 := by unfold State.lazyBuild16; split <;> rfl
@[simp] theorem State.lazyBuild16_busy : s.lazyBuild16.busy = s.busy := by unfold State.lazyBuild16; split <;> rfl
@[simp] theorem State.lazyBuild16_t16v : s.lazyBuild16.t16v = true := by cases h : s.t16v <;> simp [State.lazyBuild16, State.fullBuild16, h]
@[simp] theorem State.lazyBuild16_t32v : s.lazyBuild16.t32v = s.t32v := by unfold State.lazyBuild16; split <;> rfl
@[simp] theorem State.lazyBuild16_rv : s.lazyBuild16.rv = s.rv := by unfold State.lazyBuild16; split <;> rfl
@[simp] theorem State.lazyBuild16_err : s.lazyBuild16.err = s.err := by unfold State.lazyBuild16; split <;> rfl
@[simp] theorem State.lazyBuild16_res : s.lazyBuild16.res = s.res := by unfold State.lazyBuild16; split <;> rfl
@[simp] theorem State.lazyBuild16_t16 : s.lazyBuild16.t16 = if s.t16v then s.t16 else table16 := by unfold State.lazyBuild16; split <;> rfl
@[simp] theorem State.lazyBuild16_t32 : s.lazyBuild16.t32 = s.t32 := by unfold State.lazyBuild16; split <;> rfl
@[simp] theorem State.lazyBuild16_msg : s.lazyBuild16.msg = s.msg := by unfold State.lazyBuild16; split <;> rfl
@[simp] theorem State.lazyBuild16_cap : s.lazyBuild16.cap = s.cap := by unfold State.lazyBuild16; split <;> rfl
@[simp] theorem State.lazyBuild16_draws : s.lazyBuild16.draws = s.draws := by unfold State.lazyBuild16; split <;> rfl
@[simp] theorem State.lazyBuild16_byteCount : s.lazyBuild16.byteCount = s.byteCount := by unfold State.lazyBuild16; split <;> rfl
@[simp] theorem State.lazyBuild16_msgByte (x : Nat) : s.lazyBuild16.msgByte x = s.msgByte x := by unfold State.lazyBuild16; split <;> rfl
@[simp] theorem State.lazyBuild16_msgBytes (x : Nat) : s.lazyBuild16.msgBytes x = s.msgBytes x := by unfold State.lazyBuild16; split <;> rfl

/-! ### `State.lazyBuild32` -/

@[simp] theorem State.lazyBuild32_presented : s.lazyBuild32.presented = s.presented := by unfold State.lazyBuild32; split <;> rfl
@[simp] theorem State.lazyBuild32_cmd : s.lazyBuild32.cmd = s.cmd := by unfold State.lazyBuild32; split <;> rfl
@[simp] theorem State.lazyBuild32_arg : s.lazyBuild32.arg = s.arg := by unfold State.lazyBuild32; split <;> rfl
@[simp] theorem State.lazyBuild32_len : s.lazyBuild32.len = s.len := by unfold State.lazyBuild32; split <;> rfl
@[simp] theorem State.lazyBuild32_runCmd : s.lazyBuild32.runCmd = s.runCmd := by unfold State.lazyBuild32; split <;> rfl
@[simp] theorem State.lazyBuild32_runArg : s.lazyBuild32.runArg = s.runArg := by unfold State.lazyBuild32; split <;> rfl
@[simp] theorem State.lazyBuild32_runLen : s.lazyBuild32.runLen = s.runLen := by unfold State.lazyBuild32; split <;> rfl
@[simp] theorem State.lazyBuild32_phase : s.lazyBuild32.phase = s.phase := by unfold State.lazyBuild32; split <;> rfl
@[simp] theorem State.lazyBuild32_r16 : s.lazyBuild32.r16 = s.r16 := by unfold State.lazyBuild32; split <;> rfl
@[simp] theorem State.lazyBuild32_r32 : s.lazyBuild32.r32 = if s.t32v then s.r32 else entry32 255 := by unfold State.lazyBuild32; split <;> rfl
@[simp] theorem State.lazyBuild32_b32 : s.lazyBuild32.b32 = s.b32 := by unfold State.lazyBuild32; split <;> rfl
@[simp] theorem State.lazyBuild32_idx : s.lazyBuild32.idx = s.idx := by unfold State.lazyBuild32; split <;> rfl
@[simp] theorem State.lazyBuild32_rnd : s.lazyBuild32.rnd = if s.t32v then s.rnd else 8 := by unfold State.lazyBuild32; split <;> rfl
@[simp] theorem State.lazyBuild32_tidx : s.lazyBuild32.tidx = if s.t32v then s.tidx else 256 := by unfold State.lazyBuild32; split <;> rfl
@[simp] theorem State.lazyBuild32_busy : s.lazyBuild32.busy = s.busy := by unfold State.lazyBuild32; split <;> rfl
@[simp] theorem State.lazyBuild32_t16v : s.lazyBuild32.t16v = s.t16v := by unfold State.lazyBuild32; split <;> rfl
@[simp] theorem State.lazyBuild32_t32v : s.lazyBuild32.t32v = true := by cases h : s.t32v <;> simp [State.lazyBuild32, State.fullBuild32, h]
@[simp] theorem State.lazyBuild32_rv : s.lazyBuild32.rv = s.rv := by unfold State.lazyBuild32; split <;> rfl
@[simp] theorem State.lazyBuild32_err : s.lazyBuild32.err = s.err := by unfold State.lazyBuild32; split <;> rfl
@[simp] theorem State.lazyBuild32_res : s.lazyBuild32.res = s.res := by unfold State.lazyBuild32; split <;> rfl
@[simp] theorem State.lazyBuild32_t16 : s.lazyBuild32.t16 = s.t16 := by unfold State.lazyBuild32; split <;> rfl
@[simp] theorem State.lazyBuild32_t32 : s.lazyBuild32.t32 = if s.t32v then s.t32 else table32 := by unfold State.lazyBuild32; split <;> rfl
@[simp] theorem State.lazyBuild32_msg : s.lazyBuild32.msg = s.msg := by unfold State.lazyBuild32; split <;> rfl
@[simp] theorem State.lazyBuild32_cap : s.lazyBuild32.cap = s.cap := by unfold State.lazyBuild32; split <;> rfl
@[simp] theorem State.lazyBuild32_draws : s.lazyBuild32.draws = s.draws := by unfold State.lazyBuild32; split <;> rfl
@[simp] theorem State.lazyBuild32_byteCount : s.lazyBuild32.byteCount = s.byteCount := by unfold State.lazyBuild32; split <;> rfl
@[simp] theorem State.lazyBuild32_msgByte (x : Nat) : s.lazyBuild32.msgByte x = s.msgByte x := by unfold State.lazyBuild32; split <;> rfl
@[simp] theorem State.lazyBuild32_msgBytes (x : Nat) : s.lazyBuild32.msgBytes x = s.msgBytes x := by unfold State.lazyBuild32; split <;> rfl

/-! ### `State.runBit16` -/

@[simp] theorem State.runBit16_presented : s.runBit16.presented = s.presented := rfl
@[simp] theorem State.runBit16_cmd : s.runBit16.cmd = s.cmd := rfl
@[simp] theorem State.runBit16_arg : s.runBit16.arg = s.arg := rfl
@[simp] theorem State.runBit16_len : s.runBit16.len = s.len := rfl
@[simp] theorem State.runBit16_runCmd : s.runBit16.runCmd = s.runCmd := rfl
@[simp] theorem State.runBit16_runArg : s.runBit16.runArg = s.runArg := rfl
@[simp] theorem State.runBit16_runLen : s.runBit16.runLen = s.runLen := rfl
@[simp] theorem State.runBit16_phase : s.runBit16.phase = s.phase := rfl
@[simp] theorem State.runBit16_r16 : s.runBit16.r16 = crc16Reg (s.msgBytes s.byteCount) := rfl
@[simp] theorem State.runBit16_r32 : s.runBit16.r32 = s.r32 := rfl
@[simp] theorem State.runBit16_b32 : s.runBit16.b32 = s.b32 := rfl
@[simp] theorem State.runBit16_idx : s.runBit16.idx = s.runLen := rfl
@[simp] theorem State.runBit16_rnd : s.runBit16.rnd = rndAfter s.byteCount s.rnd := rfl
@[simp] theorem State.runBit16_tidx : s.runBit16.tidx = s.tidx := rfl
@[simp] theorem State.runBit16_busy : s.runBit16.busy = s.busy := rfl
@[simp] theorem State.runBit16_t16v : s.runBit16.t16v = s.t16v := rfl
@[simp] theorem State.runBit16_t32v : s.runBit16.t32v = s.t32v := rfl
@[simp] theorem State.runBit16_rv : s.runBit16.rv = s.rv := rfl
@[simp] theorem State.runBit16_err : s.runBit16.err = s.err := rfl
@[simp] theorem State.runBit16_res : s.runBit16.res = s.res := rfl
@[simp] theorem State.runBit16_t16 : s.runBit16.t16 = s.t16 := rfl
@[simp] theorem State.runBit16_t32 : s.runBit16.t32 = s.t32 := rfl
@[simp] theorem State.runBit16_msg : s.runBit16.msg = s.msg := rfl
@[simp] theorem State.runBit16_cap : s.runBit16.cap = s.cap := rfl
@[simp] theorem State.runBit16_draws : s.runBit16.draws = s.draws := rfl
@[simp] theorem State.runBit16_byteCount : s.runBit16.byteCount = s.byteCount := rfl
@[simp] theorem State.runBit16_msgByte (x : Nat) : s.runBit16.msgByte x = s.msgByte x := rfl
@[simp] theorem State.runBit16_msgBytes (x : Nat) : s.runBit16.msgBytes x = s.msgBytes x := rfl

/-! ### `State.runTbl16` -/

@[simp] theorem State.runTbl16_presented : s.runTbl16.presented = s.presented := rfl
@[simp] theorem State.runTbl16_cmd : s.runTbl16.cmd = s.cmd := rfl
@[simp] theorem State.runTbl16_arg : s.runTbl16.arg = s.arg := rfl
@[simp] theorem State.runTbl16_len : s.runTbl16.len = s.len := rfl
@[simp] theorem State.runTbl16_runCmd : s.runTbl16.runCmd = s.runCmd := rfl
@[simp] theorem State.runTbl16_runArg : s.runTbl16.runArg = s.runArg := rfl
@[simp] theorem State.runTbl16_runLen : s.runTbl16.runLen = s.runLen := rfl
@[simp] theorem State.runTbl16_phase : s.runTbl16.phase = s.phase := rfl
@[simp] theorem State.runTbl16_r16 : s.runTbl16.r16 = crc16TblReg s.t16 (s.msgBytes s.byteCount) := rfl
@[simp] theorem State.runTbl16_r32 : s.runTbl16.r32 = s.r32 := rfl
@[simp] theorem State.runTbl16_b32 : s.runTbl16.b32 = s.b32 := rfl
@[simp] theorem State.runTbl16_idx : s.runTbl16.idx = s.runLen := rfl
@[simp] theorem State.runTbl16_rnd : s.runTbl16.rnd = s.rnd := rfl
@[simp] theorem State.runTbl16_tidx : s.runTbl16.tidx = s.tidx := rfl
@[simp] theorem State.runTbl16_busy : s.runTbl16.busy = s.busy := rfl
@[simp] theorem State.runTbl16_t16v : s.runTbl16.t16v = s.t16v := rfl
@[simp] theorem State.runTbl16_t32v : s.runTbl16.t32v = s.t32v := rfl
@[simp] theorem State.runTbl16_rv : s.runTbl16.rv = s.rv := rfl
@[simp] theorem State.runTbl16_err : s.runTbl16.err = s.err := rfl
@[simp] theorem State.runTbl16_res : s.runTbl16.res = s.res := rfl
@[simp] theorem State.runTbl16_t16 : s.runTbl16.t16 = s.t16 := rfl
@[simp] theorem State.runTbl16_t32 : s.runTbl16.t32 = s.t32 := rfl
@[simp] theorem State.runTbl16_msg : s.runTbl16.msg = s.msg := rfl
@[simp] theorem State.runTbl16_cap : s.runTbl16.cap = s.cap := rfl
@[simp] theorem State.runTbl16_draws : s.runTbl16.draws = s.draws := rfl
@[simp] theorem State.runTbl16_byteCount : s.runTbl16.byteCount = s.byteCount := rfl
@[simp] theorem State.runTbl16_msgByte (x : Nat) : s.runTbl16.msgByte x = s.msgByte x := rfl
@[simp] theorem State.runTbl16_msgBytes (x : Nat) : s.runTbl16.msgBytes x = s.msgBytes x := rfl

/-! ### `State.runRef32` -/

@[simp] theorem State.runRef32_presented : s.runRef32.presented = s.presented := rfl
@[simp] theorem State.runRef32_cmd : s.runRef32.cmd = s.cmd := rfl
@[simp] theorem State.runRef32_arg : s.runRef32.arg = s.arg := rfl
@[simp] theorem State.runRef32_len : s.runRef32.len = s.len := rfl
@[simp] theorem State.runRef32_runCmd : s.runRef32.runCmd = s.runCmd := rfl
@[simp] theorem State.runRef32_runArg : s.runRef32.runArg = s.runArg := rfl
@[simp] theorem State.runRef32_runLen : s.runRef32.runLen = s.runLen := rfl
@[simp] theorem State.runRef32_phase : s.runRef32.phase = s.phase := rfl
@[simp] theorem State.runRef32_r16 : s.runRef32.r16 = s.r16 := rfl
@[simp] theorem State.runRef32_r32 : s.runRef32.r32 = crc32RefReg (s.msgBytes s.byteCount) := rfl
@[simp] theorem State.runRef32_b32 : s.runRef32.b32 = s.b32 := rfl
@[simp] theorem State.runRef32_idx : s.runRef32.idx = s.runLen := rfl
@[simp] theorem State.runRef32_rnd : s.runRef32.rnd = rndAfter s.byteCount s.rnd := rfl
@[simp] theorem State.runRef32_tidx : s.runRef32.tidx = s.tidx := rfl
@[simp] theorem State.runRef32_busy : s.runRef32.busy = s.busy := rfl
@[simp] theorem State.runRef32_t16v : s.runRef32.t16v = s.t16v := rfl
@[simp] theorem State.runRef32_t32v : s.runRef32.t32v = s.t32v := rfl
@[simp] theorem State.runRef32_rv : s.runRef32.rv = s.rv := rfl
@[simp] theorem State.runRef32_err : s.runRef32.err = s.err := rfl
@[simp] theorem State.runRef32_res : s.runRef32.res = s.res := rfl
@[simp] theorem State.runRef32_t16 : s.runRef32.t16 = s.t16 := rfl
@[simp] theorem State.runRef32_t32 : s.runRef32.t32 = s.t32 := rfl
@[simp] theorem State.runRef32_msg : s.runRef32.msg = s.msg := rfl
@[simp] theorem State.runRef32_cap : s.runRef32.cap = s.cap := rfl
@[simp] theorem State.runRef32_draws : s.runRef32.draws = s.draws := rfl
@[simp] theorem State.runRef32_byteCount : s.runRef32.byteCount = s.byteCount := rfl
@[simp] theorem State.runRef32_msgByte (x : Nat) : s.runRef32.msgByte x = s.msgByte x := rfl
@[simp] theorem State.runRef32_msgBytes (x : Nat) : s.runRef32.msgBytes x = s.msgBytes x := rfl

/-! ### `State.runStd32` -/

@[simp] theorem State.runStd32_presented : s.runStd32.presented = s.presented := rfl
@[simp] theorem State.runStd32_cmd : s.runStd32.cmd = s.cmd := rfl
@[simp] theorem State.runStd32_arg : s.runStd32.arg = s.arg := rfl
@[simp] theorem State.runStd32_len : s.runStd32.len = s.len := rfl
@[simp] theorem State.runStd32_runCmd : s.runStd32.runCmd = s.runCmd := rfl
@[simp] theorem State.runStd32_runArg : s.runStd32.runArg = s.runArg := rfl
@[simp] theorem State.runStd32_runLen : s.runStd32.runLen = s.runLen := rfl
@[simp] theorem State.runStd32_phase : s.runStd32.phase = s.phase := rfl
@[simp] theorem State.runStd32_r16 : s.runStd32.r16 = s.r16 := rfl
@[simp] theorem State.runStd32_r32 : s.runStd32.r32 = crc32StdReg (s.msgBytes s.byteCount) := rfl
@[simp] theorem State.runStd32_b32 : s.runStd32.b32 = s.b32 := rfl
@[simp] theorem State.runStd32_idx : s.runStd32.idx = s.runLen := rfl
@[simp] theorem State.runStd32_rnd : s.runStd32.rnd = rndAfter s.byteCount s.rnd := rfl
@[simp] theorem State.runStd32_tidx : s.runStd32.tidx = s.tidx := rfl
@[simp] theorem State.runStd32_busy : s.runStd32.busy = s.busy := rfl
@[simp] theorem State.runStd32_t16v : s.runStd32.t16v = s.t16v := rfl
@[simp] theorem State.runStd32_t32v : s.runStd32.t32v = s.t32v := rfl
@[simp] theorem State.runStd32_rv : s.runStd32.rv = s.rv := rfl
@[simp] theorem State.runStd32_err : s.runStd32.err = s.err := rfl
@[simp] theorem State.runStd32_res : s.runStd32.res = s.res := rfl
@[simp] theorem State.runStd32_t16 : s.runStd32.t16 = s.t16 := rfl
@[simp] theorem State.runStd32_t32 : s.runStd32.t32 = s.t32 := rfl
@[simp] theorem State.runStd32_msg : s.runStd32.msg = s.msg := rfl
@[simp] theorem State.runStd32_cap : s.runStd32.cap = s.cap := rfl
@[simp] theorem State.runStd32_draws : s.runStd32.draws = s.draws := rfl
@[simp] theorem State.runStd32_byteCount : s.runStd32.byteCount = s.byteCount := rfl
@[simp] theorem State.runStd32_msgByte (x : Nat) : s.runStd32.msgByte x = s.msgByte x := rfl
@[simp] theorem State.runStd32_msgBytes (x : Nat) : s.runStd32.msgBytes x = s.msgBytes x := rfl

/-! ### `State.runTbl32` -/

@[simp] theorem State.runTbl32_presented : s.runTbl32.presented = s.presented := rfl
@[simp] theorem State.runTbl32_cmd : s.runTbl32.cmd = s.cmd := rfl
@[simp] theorem State.runTbl32_arg : s.runTbl32.arg = s.arg := rfl
@[simp] theorem State.runTbl32_len : s.runTbl32.len = s.len := rfl
@[simp] theorem State.runTbl32_runCmd : s.runTbl32.runCmd = s.runCmd := rfl
@[simp] theorem State.runTbl32_runArg : s.runTbl32.runArg = s.runArg := rfl
@[simp] theorem State.runTbl32_runLen : s.runTbl32.runLen = s.runLen := rfl
@[simp] theorem State.runTbl32_phase : s.runTbl32.phase = s.phase := rfl
@[simp] theorem State.runTbl32_r16 : s.runTbl32.r16 = s.r16 := rfl
@[simp] theorem State.runTbl32_r32 : s.runTbl32.r32 = crc32TblReg s.t32 (s.msgBytes s.byteCount) := rfl
@[simp] theorem State.runTbl32_b32 : s.runTbl32.b32 = s.b32 := rfl
@[simp] theorem State.runTbl32_idx : s.runTbl32.idx = s.runLen := rfl
@[simp] theorem State.runTbl32_rnd : s.runTbl32.rnd = s.rnd := rfl
@[simp] theorem State.runTbl32_tidx : s.runTbl32.tidx = s.tidx := rfl
@[simp] theorem State.runTbl32_busy : s.runTbl32.busy = s.busy := rfl
@[simp] theorem State.runTbl32_t16v : s.runTbl32.t16v = s.t16v := rfl
@[simp] theorem State.runTbl32_t32v : s.runTbl32.t32v = s.t32v := rfl
@[simp] theorem State.runTbl32_rv : s.runTbl32.rv = s.rv := rfl
@[simp] theorem State.runTbl32_err : s.runTbl32.err = s.err := rfl
@[simp] theorem State.runTbl32_res : s.runTbl32.res = s.res := rfl
@[simp] theorem State.runTbl32_t16 : s.runTbl32.t16 = s.t16 := rfl
@[simp] theorem State.runTbl32_t32 : s.runTbl32.t32 = s.t32 := rfl
@[simp] theorem State.runTbl32_msg : s.runTbl32.msg = s.msg := rfl
@[simp] theorem State.runTbl32_cap : s.runTbl32.cap = s.cap := rfl
@[simp] theorem State.runTbl32_draws : s.runTbl32.draws = s.draws := rfl
@[simp] theorem State.runTbl32_byteCount : s.runTbl32.byteCount = s.byteCount := rfl
@[simp] theorem State.runTbl32_msgByte (x : Nat) : s.runTbl32.msgByte x = s.msgByte x := rfl
@[simp] theorem State.runTbl32_msgBytes (x : Nat) : s.runTbl32.msgBytes x = s.msgBytes x := rfl

/-! ### `State.finish16` -/

@[simp] theorem State.finish16_presented : s.finish16.presented = s.presented := rfl
@[simp] theorem State.finish16_cmd : s.finish16.cmd = s.cmd := rfl
@[simp] theorem State.finish16_arg : s.finish16.arg = s.arg := rfl
@[simp] theorem State.finish16_len : s.finish16.len = s.len := rfl
@[simp] theorem State.finish16_runCmd : s.finish16.runCmd = s.runCmd := rfl
@[simp] theorem State.finish16_runArg : s.finish16.runArg = s.runArg := rfl
@[simp] theorem State.finish16_runLen : s.finish16.runLen = s.runLen := rfl
@[simp] theorem State.finish16_phase : s.finish16.phase = .start := rfl
@[simp] theorem State.finish16_r16 : s.finish16.r16 = s.r16 := rfl
@[simp] theorem State.finish16_r32 : s.finish16.r32 = s.r32 := rfl
@[simp] theorem State.finish16_b32 : s.finish16.b32 = s.b32 := rfl
@[simp] theorem State.finish16_idx : s.finish16.idx = s.idx := rfl
@[simp] theorem State.finish16_rnd : s.finish16.rnd = s.rnd := rfl
@[simp] theorem State.finish16_tidx : s.finish16.tidx = s.tidx := rfl
@[simp] theorem State.finish16_busy : s.finish16.busy = false := rfl
@[simp] theorem State.finish16_t16v : s.finish16.t16v = s.t16v := rfl
@[simp] theorem State.finish16_t32v : s.finish16.t32v = s.t32v := rfl
@[simp] theorem State.finish16_rv : s.finish16.rv = true := rfl
@[simp] theorem State.finish16_err : s.finish16.err = s.err := rfl
@[simp] theorem State.finish16_res : s.finish16.res = s.r16.setWidth 32 := rfl
@[simp] theorem State.finish16_t16 : s.finish16.t16 = s.t16 := rfl
@[simp] theorem State.finish16_t32 : s.finish16.t32 = s.t32 := rfl
@[simp] theorem State.finish16_msg : s.finish16.msg = s.msg := rfl
@[simp] theorem State.finish16_cap : s.finish16.cap = s.cap := rfl
@[simp] theorem State.finish16_draws : s.finish16.draws = s.draws := rfl
@[simp] theorem State.finish16_byteCount : s.finish16.byteCount = s.byteCount := rfl
@[simp] theorem State.finish16_msgByte (x : Nat) : s.finish16.msgByte x = s.msgByte x := rfl
@[simp] theorem State.finish16_msgBytes (x : Nat) : s.finish16.msgBytes x = s.msgBytes x := rfl

/-! ### `State.finishStandard` -/

@[simp] theorem State.finishStandard_presented : s.finishStandard.presented = s.presented := rfl
@[simp] theorem State.finishStandard_cmd : s.finishStandard.cmd = s.cmd := rfl
@[simp] theorem State.finishStandard_arg : s.finishStandard.arg = s.arg := rfl
@[simp] theorem State.finishStandard_len : s.finishStandard.len = s.len := rfl
@[simp] theorem State.finishStandard_runCmd : s.finishStandard.runCmd = s.runCmd := rfl
@[simp] theorem State.finishStandard_runArg : s.finishStandard.runArg = s.runArg := rfl
@[simp] theorem State.finishStandard_runLen : s.finishStandard.runLen = s.runLen := rfl
@[simp] theorem State.finishStandard_phase : s.finishStandard.phase = .start := rfl
@[simp] theorem State.finishStandard_r16 : s.finishStandard.r16 = s.r16 := rfl
@[simp] theorem State.finishStandard_r32 : s.finishStandard.r32 = s.r32 := rfl
@[simp] theorem State.finishStandard_b32 : s.finishStandard.b32 = s.b32 := rfl
@[simp] theorem State.finishStandard_idx : s.finishStandard.idx = s.idx := rfl
@[simp] theorem State.finishStandard_rnd : s.finishStandard.rnd = s.rnd := rfl
@[simp] theorem State.finishStandard_tidx : s.finishStandard.tidx = s.tidx := rfl
@[simp] theorem State.finishStandard_busy : s.finishStandard.busy = false := rfl
@[simp] theorem State.finishStandard_t16v : s.finishStandard.t16v = s.t16v := rfl
@[simp] theorem State.finishStandard_t32v : s.finishStandard.t32v = s.t32v := rfl
@[simp] theorem State.finishStandard_rv : s.finishStandard.rv = true := rfl
@[simp] theorem State.finishStandard_err : s.finishStandard.err = s.err := rfl
@[simp] theorem State.finishStandard_res : s.finishStandard.res = finalStandard s.r32 := rfl
@[simp] theorem State.finishStandard_t16 : s.finishStandard.t16 = s.t16 := rfl
@[simp] theorem State.finishStandard_t32 : s.finishStandard.t32 = s.t32 := rfl
@[simp] theorem State.finishStandard_msg : s.finishStandard.msg = s.msg := rfl
@[simp] theorem State.finishStandard_cap : s.finishStandard.cap = s.cap := rfl
@[simp] theorem State.finishStandard_draws : s.finishStandard.draws = s.draws := rfl
@[simp] theorem State.finishStandard_byteCount : s.finishStandard.byteCount = s.byteCount := rfl
@[simp] theorem State.finishStandard_msgByte (x : Nat) : s.finishStandard.msgByte x = s.msgByte x := rfl
@[simp] theorem State.finishStandard_msgBytes (x : Nat) : s.finishStandard.msgBytes x = s.msgBytes x := rfl

/-! ### `State.finishReflected` -/

@[simp] theorem State.finishReflected_presented : s.finishReflected.presented = s.presented := rfl
@[simp] theorem State.finishReflected_cmd : s.finishReflected.cmd = s.cmd := rfl
@[simp] theorem State.finishReflected_arg : s.finishReflected.arg = s.arg := rfl
@[simp] theorem State.finishReflected_len : s.finishReflected.len = s.len := rfl
@[simp] theorem State.finishReflected_runCmd : s.finishReflected.runCmd = s.runCmd := rfl
@[simp] theorem State.finishReflected_runArg : s.finishReflected.runArg = s.runArg := rfl
@[simp] theorem State.finishReflected_runLen : s.finishReflected.runLen = s.runLen := rfl
@[simp] theorem State.finishReflected_phase : s.finishReflected.phase = .start := rfl
@[simp] theorem State.finishReflected_r16 : s.finishReflected.r16 = s.r16 := rfl
@[simp] theorem State.finishReflected_r32 : s.finishReflected.r32 = s.r32 := rfl
@[simp] theorem State.finishReflected_b32 : s.finishReflected.b32 = s.b32 := rfl
@[simp] theorem State.finishReflected_idx : s.finishReflected.idx = s.idx := rfl
@[simp] theorem State.finishReflected_rnd : s.finishReflected.rnd = s.rnd := rfl
@[simp] theorem State.finishReflected_tidx : s.finishReflected.tidx = s.tidx := rfl
@[simp] theorem State.finishReflected_busy : s.finishReflected.busy = false := rfl
@[simp] theorem State.finishReflected_t16v : s.finishReflected.t16v = s.t16v := rfl
@[simp] theorem State.finishReflected_t32v : s.finishReflected.t32v = s.t32v := rfl
@[simp] theorem State.finishReflected_rv : s.finishReflected.rv = true := rfl
@[simp] theorem State.finishReflected_err : s.finishReflected.err = s.err := rfl
@[simp] theorem State.finishReflected_res : s.finishReflected.res = finalReflected s.r32 := rfl
@[simp] theorem State.finishReflected_t16 : s.finishReflected.t16 = s.t16 := rfl
@[simp] theorem State.finishReflected_t32 : s.finishReflected.t32 = s.t32 := rfl
@[simp] theorem State.finishReflected_msg : s.finishReflected.msg = s.msg := rfl
@[simp] theorem State.finishReflected_cap : s.finishReflected.cap = s.cap := rfl
@[simp] theorem State.finishReflected_draws : s.finishReflected.draws = s.draws := rfl
@[simp] theorem State.finishReflected_byteCount : s.finishReflected.byteCount = s.byteCount := rfl
@[simp] theorem State.finishReflected_msgByte (x : Nat) : s.finishReflected.msgByte x = s.msgByte x := rfl
@[simp] theorem State.finishReflected_msgBytes (x : Nat) : s.finishReflected.msgBytes x = s.msgBytes x := rfl

/-! ### `State.finishRev8` -/

@[simp] theorem State.finishRev8_presented : s.finishRev8.presented = s.presented := rfl
@[simp] theorem State.finishRev8_cmd : s.finishRev8.cmd = s.cmd := rfl
@[simp] theorem State.finishRev8_arg : s.finishRev8.arg = s.arg := rfl
@[simp] theorem State.finishRev8_len : s.finishRev8.len = s.len := rfl
@[simp] theorem State.finishRev8_runCmd : s.finishRev8.runCmd = s.runCmd := rfl
@[simp] theorem State.finishRev8_runArg : s.finishRev8.runArg = s.runArg := rfl
@[simp] theorem State.finishRev8_runLen : s.finishRev8.runLen = s.runLen := rfl
@[simp] theorem State.finishRev8_phase : s.finishRev8.phase = .start := rfl
@[simp] theorem State.finishRev8_r16 : s.finishRev8.r16 = s.r16 := rfl
@[simp] theorem State.finishRev8_r32 : s.finishRev8.r32 = s.r32 := rfl
@[simp] theorem State.finishRev8_b32 : s.finishRev8.b32 = s.b32 := rfl
@[simp] theorem State.finishRev8_idx : s.finishRev8.idx = s.idx := rfl
@[simp] theorem State.finishRev8_rnd : s.finishRev8.rnd = s.rnd := rfl
@[simp] theorem State.finishRev8_tidx : s.finishRev8.tidx = s.tidx := rfl
@[simp] theorem State.finishRev8_busy : s.finishRev8.busy = false := rfl
@[simp] theorem State.finishRev8_t16v : s.finishRev8.t16v = s.t16v := rfl
@[simp] theorem State.finishRev8_t32v : s.finishRev8.t32v = s.t32v := rfl
@[simp] theorem State.finishRev8_rv : s.finishRev8.rv = true := rfl
@[simp] theorem State.finishRev8_err : s.finishRev8.err = s.err := rfl
@[simp] theorem State.finishRev8_res : s.finishRev8.res = (rev8 s.argByte).setWidth 32 := rfl
@[simp] theorem State.finishRev8_t16 : s.finishRev8.t16 = s.t16 := rfl
@[simp] theorem State.finishRev8_t32 : s.finishRev8.t32 = s.t32 := rfl
@[simp] theorem State.finishRev8_msg : s.finishRev8.msg = s.msg := rfl
@[simp] theorem State.finishRev8_cap : s.finishRev8.cap = s.cap := rfl
@[simp] theorem State.finishRev8_draws : s.finishRev8.draws = s.draws := rfl
@[simp] theorem State.finishRev8_byteCount : s.finishRev8.byteCount = s.byteCount := rfl
@[simp] theorem State.finishRev8_msgByte (x : Nat) : s.finishRev8.msgByte x = s.msgByte x := rfl
@[simp] theorem State.finishRev8_msgBytes (x : Nat) : s.finishRev8.msgBytes x = s.msgBytes x := rfl

/-! ### `State.finishRev32` -/

@[simp] theorem State.finishRev32_presented : s.finishRev32.presented = s.presented := rfl
@[simp] theorem State.finishRev32_cmd : s.finishRev32.cmd = s.cmd := rfl
@[simp] theorem State.finishRev32_arg : s.finishRev32.arg = s.arg := rfl
@[simp] theorem State.finishRev32_len : s.finishRev32.len = s.len := rfl
@[simp] theorem State.finishRev32_runCmd : s.finishRev32.runCmd = s.runCmd := rfl
@[simp] theorem State.finishRev32_runArg : s.finishRev32.runArg = s.runArg := rfl
@[simp] theorem State.finishRev32_runLen : s.finishRev32.runLen = s.runLen := rfl
@[simp] theorem State.finishRev32_phase : s.finishRev32.phase = .start := rfl
@[simp] theorem State.finishRev32_r16 : s.finishRev32.r16 = s.r16 := rfl
@[simp] theorem State.finishRev32_r32 : s.finishRev32.r32 = s.r32 := rfl
@[simp] theorem State.finishRev32_b32 : s.finishRev32.b32 = s.b32 := rfl
@[simp] theorem State.finishRev32_idx : s.finishRev32.idx = s.idx := rfl
@[simp] theorem State.finishRev32_rnd : s.finishRev32.rnd = s.rnd := rfl
@[simp] theorem State.finishRev32_tidx : s.finishRev32.tidx = s.tidx := rfl
@[simp] theorem State.finishRev32_busy : s.finishRev32.busy = false := rfl
@[simp] theorem State.finishRev32_t16v : s.finishRev32.t16v = s.t16v := rfl
@[simp] theorem State.finishRev32_t32v : s.finishRev32.t32v = s.t32v := rfl
@[simp] theorem State.finishRev32_rv : s.finishRev32.rv = true := rfl
@[simp] theorem State.finishRev32_err : s.finishRev32.err = s.err := rfl
@[simp] theorem State.finishRev32_res : s.finishRev32.res = rev32 s.runArg := rfl
@[simp] theorem State.finishRev32_t16 : s.finishRev32.t16 = s.t16 := rfl
@[simp] theorem State.finishRev32_t32 : s.finishRev32.t32 = s.t32 := rfl
@[simp] theorem State.finishRev32_msg : s.finishRev32.msg = s.msg := rfl
@[simp] theorem State.finishRev32_cap : s.finishRev32.cap = s.cap := rfl
@[simp] theorem State.finishRev32_draws : s.finishRev32.draws = s.draws := rfl
@[simp] theorem State.finishRev32_byteCount : s.finishRev32.byteCount = s.byteCount := rfl
@[simp] theorem State.finishRev32_msgByte (x : Nat) : s.finishRev32.msgByte x = s.msgByte x := rfl
@[simp] theorem State.finishRev32_msgBytes (x : Nat) : s.finishRev32.msgBytes x = s.msgBytes x := rfl

end Sys2Proof.Machine
end

