-- ==== Sys2Proof/Laws/Rounds.lean ====
section
/-! SUPPORT. The laws of the pure functions: the bits of a reversal, the linearity of the rounds, and
the entries of the two tables. -/

namespace Sys2Proof.Machine

@[simp] theorem rev8_getLsbD (v : Byte) (i : Nat) :
    (rev8 v).getLsbD i = (decide (i < 8) && v.getLsbD (7 - i)) := by
  simp [rev8, BitVec.getLsbD_reverse, BitVec.getMsbD]

@[simp] theorem rev32_getLsbD (v : Word) (i : Nat) :
    (rev32 v).getLsbD i = (decide (i < 32) && v.getLsbD (31 - i)) := by
  simp [rev32, BitVec.getLsbD_reverse, BitVec.getMsbD]

@[simp] theorem rev8_getElem (v : Byte) (i : Nat) (h : i < 8) : (rev8 v)[i] = v[7 - i] := by
  simp [← BitVec.getLsbD_eq_getElem, h]

@[simp] theorem rev32_getElem (v : Word) (i : Nat) (h : i < 32) : (rev32 v)[i] = v[31 - i] := by
  simp [← BitVec.getLsbD_eq_getElem, h]

/-- Entry `i` of the constant T16. -/
@[simp] theorem table16_getElem (i : Nat) (h : i < 256) : table16[i] = entry16 i := by
  simp [table16]

/-- Entry `i` of the constant T32. -/
@[simp] theorem table32_getElem (i : Nat) (h : i < 256) : table32[i] = entry32 i := by
  simp [table32]

/-- The seed of entry `i` of T16 is the index itself (40_crc16.md R92). -/
theorem seed16_ofNat {i : Nat} (h : i < 256) : seed16 (BitVec.ofNat 9 i) = BitVec.ofNat 16 i := by
  unfold seed16
  apply BitVec.eq_of_toNat_eq
  simp
  omega

/-- The seed of entry `i` of T32 is the index in bits 31:24 (43_crc32_table.md R140). -/
theorem seed32_ofNat {i : Nat} (h : i < 256) :
    seed32 (BitVec.ofNat 9 i) = BitVec.ofNat 32 i <<< 24 := by
  unfold seed32
  congr 1
  apply BitVec.eq_of_toNat_eq
  simp
  omega

theorem entry16_eq {i : Nat} (h : i < 256) : entry16 i = round16^[8] (BitVec.ofNat 16 i) := by
  rw [entry16, seed16_ofNat h]

theorem entry32_eq {i : Nat} (h : i < 256) : entry32 i = round32s^[8] (BitVec.ofNat 32 i <<< 24) := by
  rw [entry32, seed32_ofNat h]

/-- The T32 index as a word: nothing is lost in its eight bits (43_crc32_table.md R142). -/
theorem index32_setWidth (r : Word) (b : Byte) : (index32 r b).setWidth 32 = (r ^^^ place b) >>> 24 := by
  unfold index32
  apply BitVec.eq_of_toNat_eq
  have h : ((r ^^^ place b) >>> 24).toNat < 256 := by
    have := (r ^^^ place b).isLt
    rw [BitVec.toNat_ushiftRight, Nat.shiftRight_eq_div_pow]
    omega
  rw [BitVec.toNat_setWidth, BitVec.toNat_setWidth]
  omega

theorem xor_left_comm {w : Nat} (a b c : BitVec w) : a ^^^ (b ^^^ c) = b ^^^ (a ^^^ c) := by
  rw [← BitVec.xor_assoc, ← BitVec.xor_assoc, BitVec.xor_comm a b]

@[simp] theorem xor_cancel_left {w : Nat} (a b : BitVec w) : a ^^^ (a ^^^ b) = b := by
  rw [← BitVec.xor_assoc, BitVec.xor_self, BitVec.zero_xor]

/-- A round distributes over XOR (40_crc16.md R94). -/
theorem round16_xor (a b : Half) : round16 (a ^^^ b) = round16 a ^^^ round16 b := by
  cases ha : a.getLsbD 0 <;> cases hb : b.getLsbD 0 <;>
    simp only [round16, BitVec.getLsbD_xor, ha, hb, BitVec.ushiftRight_xor_distrib] <;>
    simp [BitVec.xor_comm, xor_left_comm]

theorem round32s_xor (a b : Word) : round32s (a ^^^ b) = round32s a ^^^ round32s b := by
  cases ha : a.getLsbD 31 <;> cases hb : b.getLsbD 31 <;>
    simp only [round32s, BitVec.getLsbD_xor, ha, hb, BitVec.shiftLeft_xor_distrib] <;>
    simp [BitVec.xor_comm, xor_left_comm]

theorem round32r_xor (a b : Word) : round32r (a ^^^ b) = round32r a ^^^ round32r b := by
  cases ha : a.getLsbD 0 <;> cases hb : b.getLsbD 0 <;>
    simp only [round32r, BitVec.getLsbD_xor, ha, hb, BitVec.ushiftRight_xor_distrib] <;>
    simp [BitVec.xor_comm, xor_left_comm]

/-- So do any number of rounds. -/
theorem iterate_xor {w : Nat} {f : BitVec w → BitVec w} (hf : ∀ a b, f (a ^^^ b) = f a ^^^ f b)
    (n : Nat) (a b : BitVec w) : f^[n] (a ^^^ b) = f^[n] a ^^^ f^[n] b := by
  induction n generalizing a b with
  | zero => rfl
  | succ n ih => simp [Function.iterate_succ, hf, ih]

end Sys2Proof.Machine
end

