-- ==== Sys2Proof/Laws/Ops.lean ====
section
/-! SUPPORT. What each shared operation can do, said once: the capacity check, the message bytes, the
scan for 0x00, the reading of one byte, and the meanings in the case where the check passes. -/

namespace Sys2Proof.Machine

/-! ### The capacity check -/

theorem lengthChecked_of_le {s : State} (h : s.runLen.toNat ≤ s.cap.toNat) (body : State → State) :
    lengthChecked s body = body s := if_pos h

theorem lengthChecked_of_lt {s : State} (h : s.cap.toNat < s.runLen.toNat) (body : State → State) :
    lengthChecked s body = s.raiseFault .lengthExceedsBuffer := if_neg (Nat.not_le.2 h)

/-! ### The bytes of the message -/

@[simp] theorem State.byteCount_accept (s : State) : s.accept.byteCount = s.len.toNat := rfl

@[simp] theorem State.msgBytes_zero (s : State) : s.msgBytes 0 = [] := rfl

theorem State.msgBytes_succ (s : State) (n : Nat) :
    s.msgBytes (n + 1) = s.msgBytes n ++ [s.msgByte n] := by
  simp [State.msgBytes, List.range_succ]

@[simp] theorem State.length_msgBytes (s : State) (n : Nat) : (s.msgBytes n).length = n := by
  simp [State.msgBytes]

theorem State.msgBytes_congr {s t : State} {n : Nat} (h : ∀ a, a < n → s.msgByte a = t.msgByte a) :
    s.msgBytes n = t.msgBytes n := by
  simp only [State.msgBytes]
  exact List.map_congr_left fun a ha => h a (List.mem_range.1 ha)

/-- One more byte is one more step of any of the message loops. -/
theorem State.foldl_msgBytes_succ {α : Type} (f : α → Byte → α) (x : α) (s : State) (n : Nat) :
    (s.msgBytes (n + 1)).foldl f x = f ((s.msgBytes n).foldl f x) (s.msgByte n) := by
  simp [State.msgBytes_succ]

/-- `memRead` answers the byte, below CAP. -/
theorem memRead_of_lt {s : State} {a : Nat} (h : a < s.cap.toNat) : memRead s a = .ok (s.msgByte a) :=
  if_pos h

theorem State.withByte_of_lt {s : State} (h : s.idx.toNat < s.cap.toNat) (use : Byte → State) :
    s.withByte use = .next (use (s.msgByte s.idx.toNat)) := by
  simp [State.withByte, memRead_of_lt h]

/-- What reading the byte at IDX can do: the byte is there and used. -/
theorem State.withByte_next {s t : State} {use : Byte → State} (h : s.withByte use = .next t) :
    s.idx.toNat < s.cap.toNat ∧ t = use (s.msgByte s.idx.toNat) := by
  unfold State.withByte memRead at h
  by_cases hc : s.idx.toNat < s.cap.toNat
  · simp only [if_pos hc, Host.Outcome.next.injEq] at h
    exact ⟨hc, h.symm⟩
  · simp [if_neg hc] at h

/-- What a length-bounded command can do between two bytes: use the next, or finish after LEN. -/
theorem State.nextByte_next {s t fin : State} {use : Byte → State} (h : s.nextByte use fin = .next t) :
    (s.idx.toNat < s.byteCount ∧ s.idx.toNat < s.cap.toNat ∧ t = use (s.msgByte s.idx.toNat)) ∨
      (s.byteCount ≤ s.idx.toNat ∧ t = fin) := by
  unfold State.nextByte at h
  split at h
  · exact .inl ⟨‹_›, State.withByte_next h⟩
  · cases h; exact .inr ⟨by omega, rfl⟩

/-! ### The scan of CRC32.NT -/

theorem State.scanNul_eq_none {s : State} {k a : Nat} (h : ∀ x, a ≤ x → x < a + k → s.msgByte x ≠ 0#8) :
    s.scanNul k a = none := by
  induction k generalizing a with
  | zero => rfl
  | succ k ih =>
    rw [State.scanNul, if_neg (h a (by omega) (by omega)), ih fun x hx hk => h x (by omega) (by omega)]
    rfl

theorem State.scanNul_eq_some {s : State} {k a n : Nat} (hn : n < k) (h0 : s.msgByte (a + n) = 0#8)
    (h : ∀ x, x < n → s.msgByte (a + x) ≠ 0#8) :
    s.scanNul k a = some ((List.range n).map fun x => s.msgByte (a + x)) := by
  induction k generalizing a n with
  | zero => omega
  | succ k ih =>
    cases n with
    | zero => simp_all [State.scanNul]
    | succ n =>
      rw [State.scanNul, if_neg (by simpa using h 0 (by omega)),
        ih (n := n) (by omega) (by rw [show a + 1 + n = a + (n + 1) by omega]; exact h0)
          fun x hx => by rw [show a + 1 + x = a + (x + 1) by omega]; exact h (x + 1) (by omega)]
      simp [List.range_succ_eq_map, Function.comp_def, Nat.add_assoc, Nat.add_comm 1]

/-- Either no byte below CAP is 0x00, or there is a first one. -/
theorem noNul_or_firstNul (s : State) : NoNulBelow s s.cap.toNat ∨ ∃ z, FirstNul s z := by
  by_cases h : ∃ z, z < s.cap.toNat ∧ s.msgByte z = 0#8
  · refine .inr ⟨Nat.find h, (Nat.find_spec h).1, (Nat.find_spec h).2, fun a ha h0 => ?_⟩
    exact Nat.find_min h ha ⟨Nat.lt_trans ha (Nat.find_spec h).1, h0⟩
  · exact .inl fun a ha h0 => h ⟨a, ha, h0⟩

/-- The scan where there is no 0x00 below CAP. -/
theorem State.scanNul_of_noNul {s : State} (h : NoNulBelow s s.cap.toNat) :
    s.scanNul s.cap.toNat 0 = none :=
  State.scanNul_eq_none fun x _ hx => h x (by omega)

/-- The scan where the first 0x00 is at `z`: the bytes before it. -/
theorem State.scanNul_of_firstNul {s : State} {z : Nat} (h : FirstNul s z) :
    s.scanNul s.cap.toNat 0 = some (s.msgBytes z) := by
  rw [State.scanNul_eq_some (n := z) h.1 (by simpa using h.2.1) fun x hx => by simpa using h.2.2 x hx]
  simp [State.msgBytes]

/-! ### The meanings, by cases -/

/-- A length-bounded command with LEN > CAP. -/
theorem exec_of_lt {i : Instr} {s : State} (hi : Instr.lengthBounded i = true)
    (h : s.cap.toNat < s.len.toNat) :
    exec i s = .next (s.accept.raiseFault .lengthExceedsBuffer) := by
  have hc : s.accept.cap.toNat < s.accept.runLen.toNat := h
  cases i <;> first
    | (simp only [exec, execCrc16Bit, execCrc16Tbl, execCrc32Ref, execCrc32Tbl, execCrc32Std,
        lengthChecked_of_lt hc]; done)
    | cases hi

section
variable {s : State} (h : s.len.toNat ≤ s.cap.toNat)
include h

theorem exec_crc16Bit_of_le : exec .crc16Bit s = .next s.accept.runBit16.finish16 := by
  rw [exec, execCrc16Bit, lengthChecked_of_le h]

theorem exec_crc16Tbl_of_le : exec .crc16Tbl s = .next s.accept.lazyBuild16.runTbl16.finish16 := by
  rw [exec, execCrc16Tbl, lengthChecked_of_le h]

theorem exec_crc32Ref_of_le : exec .crc32Ref s = .next s.accept.runRef32.finishReflected := by
  rw [exec, execCrc32Ref, lengthChecked_of_le h]

theorem exec_crc32Tbl_of_le :
    exec .crc32Tbl s = .next s.accept.lazyBuild32.runTbl32.finishStandard := by
  rw [exec, execCrc32Tbl, lengthChecked_of_le h]

theorem exec_crc32Std_of_le : exec .crc32Std s = .next s.accept.runStd32.finishStandard := by
  rw [exec, execCrc32Std, lengthChecked_of_le h]

end

/-- CRC32.NT where there is no 0x00 below CAP. -/
theorem exec_crc32Nt_of_noNul {s : State} (h : NoNulBelow s s.cap.toNat) :
    exec .crc32Nt s = .next (s.accept.raiseFault .missingTerminator) := by
  have hs : s.accept.scanNul s.accept.cap.toNat 0 = none := State.scanNul_of_noNul (s := s.accept) h
  rw [exec, execCrc32Nt, State.runNt, hs]

/-- CRC32.NT where the first 0x00 is at `z`. -/
theorem exec_crc32Nt_of_firstNul {s : State} {z : Nat} (h : FirstNul s z) :
    exec .crc32Nt s =
      .next ((s.accept.workNt (crc32NtReg s.b32 (s.msgBytes z)) (BitVec.ofNat 32 z)
        (rndAfter z s.rnd)).finishStandard) := by
  have hs : s.accept.scanNul s.accept.cap.toNat 0 = some (s.msgBytes z) :=
    State.scanNul_of_firstNul (s := s.accept) h
  rw [exec, execCrc32Nt, State.runNt, hs]
  simp

/-- Every command, from any state, ends in a next state: what its end is, by cases of the check and
of the scan (10_state.md R35). -/
theorem exec_cases (i : Instr) (s : State) :
    (Instr.lengthBounded i = true ∧ s.cap.toNat < s.len.toNat ∧
        exec i s = .next (s.accept.raiseFault .lengthExceedsBuffer)) ∨
      (i = .crc32Nt ∧ NoNulBelow s s.cap.toNat ∧
        exec i s = .next (s.accept.raiseFault .missingTerminator)) ∨
      (i = .crc16Bit ∧ s.len.toNat ≤ s.cap.toNat ∧ exec i s = .next s.accept.runBit16.finish16) ∨
      (i = .crc16Tbl ∧ s.len.toNat ≤ s.cap.toNat ∧
        exec i s = .next s.accept.lazyBuild16.runTbl16.finish16) ∨
      (i = .t16Build ∧ exec i s = .next s.accept.fullBuild16.completeSilent) ∨
      (i = .rev8 ∧ exec i s = .next s.accept.finishRev8) ∨
      (i = .crc32Ref ∧ s.len.toNat ≤ s.cap.toNat ∧
        exec i s = .next s.accept.runRef32.finishReflected) ∨
      (i = .crc32Tbl ∧ s.len.toNat ≤ s.cap.toNat ∧
        exec i s = .next s.accept.lazyBuild32.runTbl32.finishStandard) ∨
      (i = .t32Build ∧ exec i s = .next s.accept.fullBuild32.completeSilent) ∨
      (i = .rev32 ∧ exec i s = .next s.accept.finishRev32) ∨
      (i = .crc32Std ∧ s.len.toNat ≤ s.cap.toNat ∧
        exec i s = .next s.accept.runStd32.finishStandard) ∨
      ∃ z, i = .crc32Nt ∧ FirstNul s z ∧
        exec i s =
          .next ((s.accept.workNt (crc32NtReg s.b32 (s.msgBytes z)) (BitVec.ofNat 32 z)
            (rndAfter z s.rnd)).finishStandard) := by
  by_cases hl : s.len.toNat ≤ s.cap.toNat
  · cases i with
    | crc16Bit => simp [exec_crc16Bit_of_le hl, hl]
    | crc16Tbl => simp [exec_crc16Tbl_of_le hl, hl]
    | t16Build => simp [exec, execT16Build]
    | rev8 => simp [exec, execRev8]
    | crc32Ref => simp [exec_crc32Ref_of_le hl, hl]
    | crc32Tbl => simp [exec_crc32Tbl_of_le hl, hl]
    | t32Build => simp [exec, execT32Build]
    | rev32 => simp [exec, execRev32]
    | crc32Std => simp [exec_crc32Std_of_le hl, hl]
    | crc32Nt =>
      rcases noNul_or_firstNul s with h | ⟨z, h⟩
      · exact .inr (.inl ⟨rfl, h, exec_crc32Nt_of_noNul h⟩)
      · iterate 11 right
        exact ⟨z, rfl, h, exec_crc32Nt_of_firstNul h⟩
  · have hg : s.cap.toNat < s.len.toNat := by omega
    cases hb : Instr.lengthBounded i with
    | true => exact .inl ⟨rfl, hg, exec_of_lt hb hg⟩
    | false =>
      cases i with
      | t16Build => simp [exec, execT16Build]
      | rev8 => simp [exec, execRev8]
      | t32Build => simp [exec, execT32Build]
      | rev32 => simp [exec, execRev32]
      | crc32Nt =>
        rcases noNul_or_firstNul s with h | ⟨z, h⟩
        · exact .inr (.inl ⟨rfl, h, exec_crc32Nt_of_noNul h⟩)
        · iterate 11 right
          exact ⟨z, rfl, h, exec_crc32Nt_of_firstNul h⟩
      | crc16Bit => cases hb
      | crc16Tbl => cases hb
      | crc32Ref => cases hb
      | crc32Tbl => cases hb
      | crc32Std => cases hb

end Sys2Proof.Machine
end

