-- ==== Sys2Proof/Laws/PerInstr.lean ====
section
/-! SUPPORT. What is said of each command as syntax, one lemma for each constructor: the word its encoder
assembles is not a reserved one, is of its family, and is no other command's word. -/

namespace Sys2Proof.Laws

/-- No two commands share a word (30_encoding.md R74). -/
theorem encode_injective {i j : Instr} (h : encode j = encode i) : j = i := by
  revert h
  cases i <;> cases j <;> first | (intro _; rfl) | (intro h; exact absurd h (by decide))

namespace EncodedWord

/-- The word of `i` selects a command (30_encoding.md R70, R72), its bit 3 is the family of `i`, and no
other command has it (R74). -/
def Statement (i : Instr) : Prop :=
  CommandWord.wellFormed (encode i) = true ∧
    (encode i).getLsbD 3 = (i.wField).getLsbD 0 ∧ ∀ j : Instr, encode j = encode i → j = i

theorem crc16Bit : Statement .crc16Bit := ⟨by decide, by decide, fun _ => encode_injective⟩

theorem crc16Tbl : Statement .crc16Tbl := ⟨by decide, by decide, fun _ => encode_injective⟩

theorem t16Build : Statement .t16Build := ⟨by decide, by decide, fun _ => encode_injective⟩

theorem rev8 : Statement .rev8 := ⟨by decide, by decide, fun _ => encode_injective⟩

theorem crc32Ref : Statement .crc32Ref := ⟨by decide, by decide, fun _ => encode_injective⟩

theorem crc32Tbl : Statement .crc32Tbl := ⟨by decide, by decide, fun _ => encode_injective⟩

theorem t32Build : Statement .t32Build := ⟨by decide, by decide, fun _ => encode_injective⟩

theorem rev32 : Statement .rev32 := ⟨by decide, by decide, fun _ => encode_injective⟩

theorem crc32Std : Statement .crc32Std := ⟨by decide, by decide, fun _ => encode_injective⟩

theorem crc32Nt : Statement .crc32Nt := ⟨by decide, by decide, fun _ => encode_injective⟩

end EncodedWord

end Sys2Proof.Laws
end

