-- ==== Sys2Proof/Laws/Script.lean ====
section
/-! SUPPORT. What the test bench's directives can do, said once: a run of caller's writes, and a change
of CAP (30_encoding.md R77). -/

namespace Sys2Proof.Machine

/-! ### The signs of the digits -/

/-- The sign printed for a digit is read as that digit. -/
theorem hexDigit_hexChar : ∀ d, d < 16 → hexDigit (hexChar d) = some d := by decide

/-! ### A run of writes -/

theorem callerWrite_of_lt {s : State} {a : Nat} (b : Byte) (hb : s.busy = false)
    (ha : a < s.cap.toNat) : callerWrite s a b = .next (s.putMsg a b) := by simp [callerWrite, hb, ha]

theorem State.putMsg_messageWf {s : State} {a : Nat} (b : Byte) (ha : a < s.cap.toNat)
    (h : MessageWf s) : MessageWf (s.putMsg a b) := by
  refine ⟨Memory.set_wf a b h.1, fun c hc => ?_⟩
  rcases Memory.mem_set hc with rfl | hc
  · exact ha
  · exact h.2 c hc

/-- Writes below CAP all happen: byte `k` stands at index `a + k`, every other index reads as before, and
nothing but MSG is touched. -/
theorem writeFrom_of_le (bs : List Byte) (a : Nat) {s : State} (hb : s.busy = false)
    (ha : a + bs.length ≤ s.cap.toNat) :
    ∃ t, writeFrom a bs s = .next t ∧ t = { s with msg := t.msg } ∧
      (∀ k (h : k < bs.length), t.msgByte (a + k) = bs[k]) ∧
      (∀ i, i < a ∨ a + bs.length ≤ i → t.msgByte i = s.msgByte i) ∧ (MessageWf s → MessageWf t) := by
  induction bs generalizing a s with
  | nil => exact ⟨s, rfl, rfl, fun k h => absurd h (Nat.not_lt_zero k), fun _ _ => rfl, id⟩
  | cons b rest ih =>
    rw [List.length_cons] at ha
    have hlt : a < s.cap.toNat := by omega
    obtain ⟨t, ht, hs, hk, hi, hw⟩ := ih (a + 1) (s := s.putMsg a b) hb (by simpa using by omega)
    refine ⟨t, by rw [writeFrom, callerWrite_of_lt b hb hlt]; exact ht, hs, fun k h => ?_, fun i h => ?_,
      fun h => hw (State.putMsg_messageWf b hlt h)⟩
    · cases k with
      | zero => rw [Nat.add_zero, hi a (.inl (Nat.lt_succ_self a))]; simp
      | succ k =>
        have := hk k (by simpa using h)
        rw [show a + (k + 1) = a + 1 + k by omega]
        simpa using this
    · rw [List.length_cons] at h
      rw [hi i (by omega), State.putMsg_msgByte_ne _ _ (by omega)]

/-- A run of writes that reaches CAP stops there: no such byte exists (20_memory.md R58). -/
theorem writeFrom_of_lt (bs : List Byte) (a : Nat) {s : State} (hb : s.busy = false)
    (hne : bs ≠ []) (ha : s.cap.toNat < a + bs.length) :
    writeFrom a bs s = .fault .messageIndexOutOfRange := by
  induction bs generalizing a s with
  | nil => exact absurd rfl hne
  | cons b rest ih =>
    rw [List.length_cons] at ha
    rw [writeFrom]
    by_cases hlt : a < s.cap.toNat
    · rw [callerWrite_of_lt b hb hlt]
      exact ih (a + 1) (s := s.putMsg a b) hb (by rintro rfl; simp at ha; omega) (by simpa using by omega)
    · simp [callerWrite, hb, hlt]

/-- While BUSY = 1 the first write of a run is refused (93_implementation_defined.md U3). -/
theorem writeFrom_of_busy {bs : List Byte} (a : Nat) {s : State} (hb : s.busy = true) (hne : bs ≠ []) :
    writeFrom a bs s = .refused .messageWriteWhileBusy := by
  cases bs with
  | nil => exact absurd rfl hne
  | cons b rest => simp [writeFrom, callerWrite, hb]

/-! ### A change of CAP -/

/-- Dropping the cells at or above `n` changes no read below `n`. -/
theorem Memory.get?_filter_lt (m : List Host.Cell) {n a : Nat} (h : a < n) :
    Memory.get? (m.filter fun c => decide (c.1 < n)) a = Memory.get? m a := by
  induction m with
  | nil => rfl
  | cons c rest ih =>
    by_cases hc : c.1 < n
    · rw [List.filter_cons_of_pos (by simpa using hc)]; simp only [Memory.get?, ih]
    · rw [List.filter_cons_of_neg (by simpa using hc), ih, Memory.get?, if_neg (by omega)]

/-- `.cap n` keeps every byte that still exists. -/
theorem State.withCap_msgByte (s : State) (n : Word) {a : Nat} (h : a < n.toNat) :
    (s.withCap n).msgByte a = s.msgByte a := by
  simp [State.msgByte, State.withCap, Memory.get?_filter_lt _ h]

/-- After `.cap n` no byte is listed at or above the new CAP, and a canonical list stays canonical. -/
theorem State.withCap_messageWf {s : State} (n : Word) (h : Memory.wf s.msg) : MessageWf (s.withCap n) :=
  ⟨h.filter _, fun c hc => by simpa [State.withCap] using (List.mem_filter.1 hc).2⟩

end Sys2Proof.Machine
end

