-- ==== Sys2Proof/Laws/Sequence.lean ====
section
/-! SUPPORT. What a sequencing step can do, said once: the step of each command by its phase, and what
every sequencing step leaves alone. -/

namespace Sys2Proof.Machine

/-! ### The counters -/

/-- IDX does not wrap below a bound no larger than CAP (10_state.md R26). -/
theorem idx_succ {x c : Word} {n : Nat} (h : x.toNat < n) (hn : n ≤ c.toNat) :
    (x + 1).toNat = x.toNat + 1 := by
  have := c.isLt
  rw [BitVec.toNat_add]
  simp
  omega

/-- RND does not wrap below 8. -/
theorem rnd_succ {x : BitVec 4} (h : x.toNat < 8) : (x + 1).toNat = x.toNat + 1 := by
  rw [BitVec.toNat_add]
  simp
  omega

/-- TIDX does not wrap below 256. -/
theorem tidx_succ {x : BitVec 9} (h : x.toNat < 256) : (x + 1).toNat = x.toNat + 1 := by
  rw [BitVec.toNat_add]
  simp
  omega

/-- What a flag says depends on the tables and the flags alone. -/
theorem TablesValid.of_eq {s t : State} (h : TablesValid s) (h1 : t.t16 = s.t16) (h2 : t.t32 = s.t32)
    (h3 : t.t16v = s.t16v) (h4 : t.t32v = s.t32v) : TablesValid t := by
  unfold TablesValid at *
  rw [h1, h2, h3, h4]
  exact h

/-! ### What a sequencing step leaves alone -/

/-- The input ports, the sampled operands, MSG and CAP are as they were. -/
def SameOutside (s t : State) : Prop :=
  t.presented = s.presented ∧ t.cmd = s.cmd ∧ t.arg = s.arg ∧ t.len = s.len ∧
    t.runCmd = s.runCmd ∧ t.runArg = s.runArg ∧ t.runLen = s.runLen ∧ t.msg = s.msg ∧ t.cap = s.cap

theorem SameOutside.refl (s : State) : SameOutside s s := ⟨rfl, rfl, rfl, rfl, rfl, rfl, rfl, rfl, rfl⟩

theorem SameOutside.raiseFault (s : State) (f : CmdFault) : SameOutside s (s.raiseFault f) := by
  simp [SameOutside]

/-- The capacity check changes nothing outside if its body does not. -/
theorem SameOutside.lengthChecked {s : State} {body : State → State} (h : SameOutside s (body s)) :
    SameOutside s (lengthChecked s body) := by
  unfold Machine.lengthChecked
  split
  · exact h
  · exact .raiseFault s _

theorem SameOutside.fillStep16 {s : State} {done : State → State}
    (h : ∀ u, SameOutside s u → SameOutside s (done u)) : SameOutside s (s.fillStep16 done) := by
  simp only [State.fillStep16]
  split
  · simp [SameOutside]
  · split
    · simp [SameOutside]
    · exact h _ (by simp [SameOutside])

theorem SameOutside.fillStep32 {s : State} {done : State → State}
    (h : ∀ u, SameOutside s u → SameOutside s (done u)) : SameOutside s (s.fillStep32 done) := by
  simp only [State.fillStep32]
  split
  · simp [SameOutside]
  · split
    · simp [SameOutside]
    · exact h _ (by simp [SameOutside])

theorem SameOutside.nextByte {s t fin : State} {use : Byte → State} (h : s.nextByte use fin = .next t)
    (hu : ∀ b, SameOutside s (use b)) (hf : SameOutside s fin) : SameOutside s t := by
  rcases State.nextByte_next h with ⟨_, _, rfl⟩ | ⟨_, rfl⟩
  · exact hu _
  · exact hf

theorem SameOutside.startBytes16 {s u : State} (h : SameOutside s u) : SameOutside s u.startBytes16 := by
  simpa [SameOutside, State.startBytes16] using h

theorem SameOutside.startBytes32 {s u : State} (h : SameOutside s u) : SameOutside s u.startBytes32 := by
  simpa [SameOutside, State.startBytes32] using h

theorem SameOutside.completeSilent {s u : State} (h : SameOutside s u) :
    SameOutside s u.completeSilent := by
  simpa [SameOutside] using h

theorem SameOutside.startFill16 (s : State) : SameOutside s s.startFill16 := by
  simp [SameOutside, State.startFill16]

theorem SameOutside.startFill32 (s : State) : SameOutside s s.startFill32 := by
  simp [SameOutside, State.startFill32]

theorem SameOutside.roundStep16 (s : State) : SameOutside s s.roundStep16 := by
  unfold State.roundStep16; split <;> simp [SameOutside]

theorem SameOutside.roundStep32 (s : State) (f : Word → Word) : SameOutside s (s.roundStep32 f) := by
  unfold State.roundStep32; split <;> simp [SameOutside]

theorem SameOutside.roundStepNt (s : State) : SameOutside s s.roundStepNt := by
  simp only [State.roundStepNt]; split <;> simp [SameOutside]

theorem SameOutside.nextByteNt {s t : State} (h : s.nextByteNt = .next t) : SameOutside s t := by
  unfold State.nextByteNt at h
  split at h
  · cases h; exact .raiseFault s _
  · obtain ⟨_, rfl⟩ := State.withByte_next h
    split <;> simp [SameOutside]

/-- A sequencing step leaves the ports, the sampled operands, MSG and CAP alone. -/
theorem tick_sameOutside {s t : State} (h : tick s = .next t) : SameOutside s t := by
  have hn {use : Byte → State} {fin : State} (h : s.nextByte use fin = .next t)
      (hu : ∀ b, SameOutside s (use b)) (hf : SameOutside s fin) := SameOutside.nextByte h hu hf
  unfold tick at h
  split at h
  · cases h; exact .raiseFault s _
  · split at h
    · unfold tickCrc16Bit at h
      split at h
      · cases h; exact .lengthChecked (.startBytes16 (.refl s))
      · exact hn h (fun b => by simp [SameOutside]) (by simp [SameOutside])
      · cases h; exact .roundStep16 s
      · cases h
    · unfold tickCrc16Tbl at h
      split at h
      · cases h
        refine .lengthChecked ?_
        split
        · exact .startBytes16 (.refl s)
        · exact .startFill16 s
      · cases h; exact .fillStep16 fun _ => .startBytes16
      · exact hn h (fun b => by simp [SameOutside]) (by simp [SameOutside])
      · cases h
    · unfold tickT16Build at h
      split at h <;> cases h
      · exact .startFill16 s
      · exact .fillStep16 fun _ => .completeSilent
    · unfold tickRev8 at h
      split at h <;> cases h
      simp [SameOutside]
    · unfold tickCrc32Ref at h
      split at h
      · cases h; exact .lengthChecked (.startBytes32 (.refl s))
      · exact hn h (fun b => by simp [SameOutside]) (by simp [SameOutside])
      · cases h; exact .roundStep32 s _
      · cases h
    · unfold tickCrc32Tbl at h
      split at h
      · cases h
        refine .lengthChecked ?_
        split
        · exact .startBytes32 (.refl s)
        · exact .startFill32 s
      · cases h; exact .fillStep32 fun _ => .startBytes32
      · exact hn h (fun b => by simp [SameOutside]) (by simp [SameOutside])
      · cases h
    · unfold tickT32Build at h
      split at h <;> cases h
      · exact .startFill32 s
      · exact .fillStep32 fun _ => .completeSilent
    · unfold tickRev32 at h
      split at h <;> cases h
      simp [SameOutside]
    · unfold tickCrc32Std at h
      split at h
      · cases h; exact .lengthChecked (.startBytes32 (.refl s))
      · exact hn h (fun b => by simp [SameOutside]) (by simp [SameOutside])
      · cases h; exact .roundStep32 s _
      · cases h
    · unfold tickCrc32Nt at h
      split at h
      · cases h; exact .startBytes32 (.refl s)
      · exact .nextByteNt h
      · cases h; exact .roundStepNt s
      · cases h

/-- The sequencing steps stop where BUSY falls. -/
theorem tickRun_of_idle {s : State} (h : s.busy = false) (n : Nat) : tickRun n s = .next s := by
  cases n <;> simp [tickRun, h]

/-- One sequencing step of a BUSY block. -/
theorem tickRun_succ {s t : State} (hb : s.busy = true) (h : tick s = .next t) (n : Nat) :
    tickRun (n + 1) s = tickRun n t := by
  simp [tickRun, hb, h]

/-- Sequencing steps add up. -/
theorem tickRun_add {s t : State} {m : Nat} (h : tickRun m s = .next t) (n : Nat) :
    tickRun (m + n) s = tickRun n t := by
  induction m generalizing s with
  | zero => cases h; rw [Nat.zero_add]
  | succ m ih =>
    by_cases hb : s.busy = true
    · rw [Nat.add_right_comm]
      simp only [tickRun, hb, if_true] at h ⊢
      cases ht : tick s with
      | next u => rw [ht] at h; exact ih h
      | fault f => rw [ht] at h; cases h
      | refused r => rw [ht] at h; cases h
    · have hb : s.busy = false := by simpa using hb
      rw [tickRun_of_idle hb] at h
      cases h
      rw [tickRun_of_idle hb, tickRun_of_idle hb]

end Sys2Proof.Machine
end

