-- ==== Sys2Proof/Tests/Slice0.lean ====
section
/-! SUPPORT. The author's tests. Expected values are taken from the spec: its encodings (30_encoding.md
R70, R72, R74) and its vectors (95_test_vectors.md sections 2.1 to 2.5; 40_crc16.md R93; 43_crc32_table.md
R141). After them, one witness for the hypotheses of every statement that has some. -/

namespace Sys2Proof.Tests

open Sys2Proof.Machine

/-! ### States -/

/-- An idle block after reset whose MSG is `bs`, with CAP the number of its bytes. -/
def idle (bs : List Byte) : State :=
  { State.reset with
    cap := BitVec.ofNat 32 bs.length, msg := (List.range bs.length).zip bs }

/-- The same, with the command word `c` and the operands ARG and LEN presented. -/
def shown (bs : List Byte) (c : Byte) (a n : Word) : State := (idle bs).issue c a n

/-- RES as the caller reads it after an outcome. -/
def resOf (o : Host.Outcome State Fault Refusal) : Option Word :=
  match o with
  | .next t => (readRes t).toOption
  | .fault _ => none
  | .refused _ => none

/-- STAT as the caller reads it after an outcome. -/
def statOf (o : Host.Outcome State Fault Refusal) : Option Byte :=
  match o with
  | .next t => some (readStat t)
  | .fault _ => none
  | .refused _ => none

/-! ### Ill-formed words and lines -/

/-- Z is not 0000 (R70). -/
theorem test_wellFormed_refuses_z : CommandWord.wellFormed 0b00010000#8 = false := by decide

/-- FN = 4 with W = 0 (R72). -/
theorem test_wellFormed_refuses_fn4_narrow : CommandWord.wellFormed 0b00000100#8 = false := by decide

/-- FN = 6 with W = 1 (R72). -/
theorem test_wellFormed_refuses_fn6_wide : CommandWord.wellFormed 0b00001110#8 = false := by decide

/-- A word outside the ports: LEN of 33 bits, CMD of 9 bits, a byte of 9 bits. -/
theorem test_line_refuses_wide_numbers :
    Line.wellFormed (.crc16 (2 ^ 32)) = false ∧ Line.wellFormed (.raw 256 0 0) = false ∧
      Line.wellFormed (.msg [256]) = false ∧ Line.wellFormed (.command .crc32Nt 1) = false ∧
      Line.wellFormed (.msg []) = false ∧ Line.wellFormed (.cap (2 ^ 32)) = false := by decide

/-- A malformed line has no parse and is refused by name. -/
theorem test_line_parse_refuses :
    Line.parse "CRC32.NT 5".toList = none ∧ Line.parse "REV8".toList = none ∧
      Line.parse "CRC16 1x".toList = none := by decide +kernel

/-- A line with its comment, in the forms of R77. -/
theorem test_line_parse :
    Line.parse "CRC32.STD  9 ; the check value".toList = some (.command .crc32Std 9) ∧
      Line.parse "RAW 0x18 0xFFFFFFFF 0".toList = some (.raw 24 4294967295 0) ∧
      Line.parse ".msg 31 0a FF".toList = some (.msg [49, 10, 255]) := by decide +kernel

/-- Each digit at its place, both cases of a hexadecimal one, and no other sign. -/
theorem test_digits :
    decDigit '7' = some 7 ∧ decDigit 'A' = none ∧ hexDigit 'f' = some 15 ∧ hexDigit 'A' = some 10 ∧
      hexDigit 'g' = none ∧ hexDigit '/' = none := by decide

/-! ### Decoding: Z = 0000, then W, then FN (R70, R72) -/

theorem test_decode_crc16Bit : decode 0b00000000#8 = .ok .crc16Bit := by decide

theorem test_decode_crc16Tbl : decode 0b00000001#8 = .ok .crc16Tbl := by decide

theorem test_decode_t16Build : decode 0b00000010#8 = .ok .t16Build := by decide

theorem test_decode_rev8 : decode 0b00000011#8 = .ok .rev8 := by decide

theorem test_decode_crc32Ref : decode 0b00001000#8 = .ok .crc32Ref := by decide

theorem test_decode_crc32Tbl : decode 0b00001001#8 = .ok .crc32Tbl := by decide

theorem test_decode_t32Build : decode 0b00001010#8 = .ok .t32Build := by decide

theorem test_decode_rev32 : decode 0b00001011#8 = .ok .rev32 := by decide

theorem test_decode_crc32Std : decode 0b00001100#8 = .ok .crc32Std := by decide

theorem test_decode_crc32Nt : decode 0b00001101#8 = .ok .crc32Nt := by decide

/-- Reserved words are refused by name (R73). -/
theorem test_decode_reserved :
    decode 0b00010000#8 = .error .zFieldNonzero ∧ decode 0b00000101#8 = .error .noSuchOperation ∧
      decode 0b00001111#8 = .error .noSuchOperation := by decide

/-- The host's word of a row, placed and run: `decodeTableWord` and `withFetchWord` agree. -/
theorem test_fetch_word :
    decodeTableWord 8 0x0B = some .rev32 ∧ decodeTableWord 8 0x1B = none ∧
      resOf (step (State.reset.withFetchWord 8 0x0B)) = some 0#32 := by decide +kernel

/-! ### One step of each command -/

/-- "01 | 1 | 0x0000807E" (section 2.1). -/
theorem test_crc16Bit : resOf (step (shown [0x01#8] 0x00#8 0 1)) = some 0x0000807E#32 := by
  decide +kernel

/-- "0x00 CRC16.BIT | - | 5 | any | fault 2" with CAP = 4 (section 2.5). -/
theorem test_crc16Bit_faults :
    statOf (step (shown [0x41#8, 0x42#8, 0x43#8, 0x44#8] 0x00#8 0 5)) = some 0x20#8 := by
  decide +kernel

/-- "31 32 33 | 3 | 0x00007A75" (section 2.1). -/
theorem test_crc16Tbl :
    resOf (step (shown [0x31#8, 0x32#8, 0x33#8] 0x01#8 0 3)) = some 0x00007A75#32 := by
  decide +kernel

/-- "after reset, T16.BUILD ends with STAT = 0x02" (R93). -/
theorem test_t16Build_stat : statOf (step (shown [] 0x02#8 0 0)) = some 0x02#8 := by decide +kernel

/-- T16[1] = 0xC0C1 and T16[0x80] = 0xA001 (section 4). -/
theorem test_t16Build_entries : entry16 1 = 0xC0C1#16 ∧ entry16 0x80 = 0xA001#16 := by decide +kernel

/-- "REV8 | 0xFFFFFF01 | 0x00000080" (section 2.2). -/
theorem test_rev8 : resOf (step (shown [] 0x03#8 0xFFFFFF01#32 0)) = some 0x00000080#32 := by
  decide +kernel

/-- "FF FF FF FF | 4 | 0xFFFFFFFF" (section 2.3). -/
theorem test_crc32Ref :
    resOf (step (shown [0xFF#8, 0xFF#8, 0xFF#8, 0xFF#8] 0x08#8 0 4)) = some 0xFFFFFFFF#32 := by
  decide +kernel

/-- "31 32 | 2 | 0x4F5344CD" (section 2.3). -/
theorem test_crc32Tbl : resOf (step (shown [0x31#8, 0x32#8] 0x09#8 0 2)) = some 0x4F5344CD#32 := by
  decide +kernel

/-- "after reset, T32.BUILD ends with STAT = 0x04" (R141). -/
theorem test_t32Build_stat : statOf (step (shown [] 0x0A#8 0 0)) = some 0x04#8 := by decide +kernel

/-- T32[1] = 0x04C11DB7 and T32[255] = 0xB1F740B4 (section 5). -/
theorem test_t32Build_entries : entry32 1 = 0x04C11DB7#32 ∧ entry32 255 = 0xB1F740B4#32 := by
  decide +kernel

/-- "REV32 | 0x12345678 | 0x1E6A2C48" (section 2.2). -/
theorem test_rev32 : resOf (step (shown [] 0x0B#8 0x12345678#32 0)) = some 0x1E6A2C48#32 := by
  decide +kernel

/-- "01 03 00 00 00 0A | 6 | 0xDDEBE1C8", embedded zero bytes (section 2.3). -/
theorem test_crc32Std :
    resOf (step (shown [0x01#8, 0x03#8, 0#8, 0#8, 0#8, 0x0A#8] 0x0C#8 0 6)) = some 0xDDEBE1C8#32 := by
  decide +kernel

/-- "41 00 42 00 | RES = 0xD3D99E8B", the scan stops at the first 00 (section 2.4). -/
theorem test_crc32Nt :
    resOf (step (shown [0x41#8, 0#8, 0x42#8, 0#8] 0x0D#8 0 0)) = some 0xD3D99E8B#32 := by
  decide +kernel

/-- "41 42 43 44 with CAP = 4 | fault 3 MissingTerminator, STAT = 0x30" (section 2.4). -/
theorem test_crc32Nt_faults :
    statOf (step (shown [0x41#8, 0x42#8, 0x43#8, 0x44#8] 0x0D#8 0 0)) = some 0x30#8 := by
  decide +kernel

/-- A reserved word: fault 1, STAT = 0x10 (section 2.5). -/
theorem test_reserved_faults : statOf (step (shown [] 0x18#8 7 9)) = some 0x10#8 := by decide +kernel

/-- Reading RES while RV = 0 is refused (93_implementation_defined.md U6). -/
theorem test_readRes_refuses : readRes (idle [0x41#8]) = .error .resultNotValid := rfl

/-! ### Witnesses: states and operands that meet the hypotheses of the statements -/

/-- Three bytes and a terminator in a MSG of CAP = 4. -/
def abc : State := idle [0x41#8, 0x42#8, 0x43#8, 0#8]

/-- The same MSG with both tables built and valid. -/
def built : State := { abc with t16v := true, t32v := true, t16 := table16, t32 := table32 }

/-- CRC16.BIT on `abc` in mid-byte: byte 0 absorbed, one round done. -/
def midByte : State :=
  ((abc.issue 0x00#8 0 4).accept.work16 (round16 (absorb16 init16 0x41#8)) 0 1).setPhase .rounds

/-- With both flags 0 there is nothing to hold. -/
theorem tablesValid_of_unset {s : State} (h1 : s.t16v = false) (h2 : s.t32v = false) : TablesValid s :=
  ⟨fun h => absurd h (by simp [h1]), fun h => absurd h (by simp [h2])⟩

theorem built_tablesValid : TablesValid built :=
  ⟨fun _ i h => table16_getElem i h, fun _ i h => table32_getElem i h⟩

theorem abc_tablesValid : TablesValid abc := tablesValid_of_unset rfl rfl

theorem abc_messageWf : MessageWf abc := by
  refine ⟨?_, ?_⟩ <;> decide +kernel

theorem midByte_inv : Inv midByte := by
  refine ⟨tablesValid_of_unset rfl rfl, abc_messageWf, fun _ => ⟨rfl, rfl, ?_⟩⟩
  show (InsideByte midByte ∧ _)
  refine ⟨⟨?_, ?_, ?_⟩, rfl⟩ <;> decide +kernel

theorem abc_firstNul : FirstNul abc 3 := by
  refine ⟨by decide +kernel, by decide +kernel, ?_⟩
  unfold NoNulBelow
  decide +kernel

/-- LEN = 4 = CAP, as the statements of the length-bounded commands allow. -/
theorem abc_len_cap : (abc.issue 0x00#8 0 4).len.toNat ≤ (abc.issue 0x00#8 0 4).cap.toNat := by
  decide +kernel

/-- LEN = 5 = CAP + 1. -/
theorem abc_len_above : (abc.issue 0x00#8 0 5).cap.toNat < (abc.issue 0x00#8 0 5).len.toNat := by
  decide +kernel

theorem witness_EncodeAndDecodeAgree : decode 0x0D#8 = .ok .crc32Nt := by decide

theorem witness_ScriptTextRoundTrip :
    Line.wellFormed (.command .rev32 (2 ^ 32 - 1)) = true ∧ Line.wellFormed (.msg [0, 255]) = true ∧
      Line.wellFormed (.msgFill 0 (2 ^ 32 - 1) 255) = true ∧ Line.wellFormed .blank = true := by decide

/-- A line of each operand use on an idle block; a wait that ends; `.msg` and `.msgfill` that end at CAP = 4,
that pass it, that are empty, and that meet a BUSY block; `.cap` at both ends of its range. -/
theorem witness_ScriptLineIssuesItsPorts :
    (abc.busy = false ∧ midByte.busy = true ∧ Line.wellFormed (.command .rev8 1) = true ∧
      (Line.command .rev8 1).ports = some (0x03#8, 1#32, 0#32) ∧ Instr.operandUse .rev8 ≠ .len ∧
      (Line.command .crc32Nt 0).ports = some (0x0D#8, 0#32, 0#32) ∧ Instr.operandUse .crc32Nt ≠ .arg) ∧
      (∃ t, tickRun abc.tickBound abc = .next t) ∧ MessageWf abc ∧
      (abc.cap = 4#32 ∧ Line.wellFormed (.msg [1, 2, 3, 4]) = true ∧
        Line.wellFormed (.msg [1, 2, 3, 4, 255]) = true) ∧
      (Line.wellFormed (.msgFill 0 3 255) = true ∧ Line.wellFormed (.msgFill 2 4 0) = true ∧
        Line.wellFormed (.msgFill 1 0 0) = true) ∧
      (Line.wellFormed (.cap 0) = true ∧ Line.wellFormed (.cap (2 ^ 32 - 1)) = true) ∧
      Line.wellFormed (.msg []) = false := by
  refine ⟨⟨rfl, rfl, ?_⟩, ⟨abc, rfl⟩, abc_messageWf, ⟨rfl, ?_⟩, ?_, ?_, ?_⟩ <;> decide

theorem witness_StepRunsThePresentedCommand :
    (abc.issue 0x0D#8 0 0).busy = false ∧ (abc.issue 0x0D#8 0 0).presented = true ∧
      decode (abc.issue 0x0D#8 0 0).cmd = .ok .crc32Nt := ⟨rfl, rfl, by decide⟩

/-- The reserved words at the ends of their ranges. -/
theorem witness_ReservedWordRaisesIllegalCommand :
    (abc.issue 0x04#8 0 0).busy = false ∧ (abc.issue 0x04#8 0 0).presented = true ∧
      (abc.issue 0x04#8 0 0).cmd = 0x04#8 ∧ (abc.issue 0x0F#8 0 0).cmd = 0x0F#8 ∧
      0x10 ≤ (abc.issue 0x10#8 0 0).cmd.toNat ∧ 0x10 ≤ (abc.issue 0xFF#8 0 0).cmd.toNat :=
  ⟨rfl, rfl, rfl, rfl, by decide, by decide⟩

theorem witness_IdleBlockKeepsEverything : abc.busy = false ∧ abc.presented = false := ⟨rfl, rfl⟩

theorem witness_HeldCommandChangesNothing : ∃ t, midByte.busy = true ∧ step midByte = .next t :=
  ⟨midByte.roundStep16, rfl, rfl⟩

theorem witness_EveryCommandEndsInOneOfThreeWays :
    (abc.issue 0x02#8 0 0).busy = false ∧ (abc.issue 0x02#8 0 0).presented = true ∧
      decode (abc.issue 0x1F#8 0 0).cmd = .error .zFieldNonzero := ⟨rfl, rfl, by decide⟩

theorem witness_FaultChangesOnlyTheErrorCode :
    ∃ t, exec .crc16Bit (abc.issue 0x00#8 0 5) = .next t ∧ t.err ≠ 0#2 :=
  ⟨_, exec_of_lt rfl abc_len_above, by decide⟩

theorem witness_CapacityIsCheckedFirst :
    Instr.lengthBounded .crc32Tbl = true ∧
      (abc.issue 0x09#8 0 5).cap.toNat < (abc.issue 0x09#8 0 5).len.toNat ∧
      (abc.issue 0x09#8 0 4).len.toNat ≤ (abc.issue 0x09#8 0 4).cap.toNat :=
  ⟨rfl, abc_len_above, abc_len_cap⟩

/-- No 0x00 in four bytes, and none in a MSG of CAP = 0; and a run that ends in fault 3. -/
theorem witness_MissingTerminatorFaults :
    NoNulBelow (idle [0x41#8, 0x42#8, 0x43#8, 0x44#8]) 4 ∧ NoNulBelow (idle []) 0 ∧
      ∃ t, exec .crc32Nt (idle []) = .next t ∧ t.err = 3#2 := by
  refine ⟨?_, ?_, _, exec_crc32Nt_of_noNul (s := idle []) (fun a h => absurd h (Nat.not_lt_zero a)), rfl⟩ <;>
    unfold NoNulBelow <;> decide +kernel

theorem witness_Crc16BitRunsTheShiftLoop :
    (abc.issue 0x00#8 0 4).len.toNat ≤ (abc.issue 0x00#8 0 4).cap.toNat ∧
      3 < (abc.issue 0x00#8 0 4).len.toNat ∧
      (abc.issue 0x00#8 0 5).cap.toNat < (abc.issue 0x00#8 0 5).len.toNat :=
  ⟨abc_len_cap, by decide, abc_len_above⟩

theorem witness_Crc16TblLooksUpEachByte :
    (built.issue 0x01#8 0 4).len.toNat ≤ (built.issue 0x01#8 0 4).cap.toNat ∧
      (built.issue 0x01#8 0 4).t16v = true ∧ (abc.issue 0x01#8 0 4).t16v = false ∧
      3 < (built.issue 0x01#8 0 4).len.toNat ∧
      (abc.issue 0x01#8 0 5).cap.toNat < (abc.issue 0x01#8 0 5).len.toNat :=
  ⟨abc_len_cap, rfl, rfl, by decide, abc_len_above⟩

/-- The first 0x00 at the last index below CAP, and at index 0; and no 0x00. -/
theorem witness_Crc32NtRunsToTheTerminator :
    FirstNul abc 3 ∧ FirstNul (idle [0#8]) 0 ∧ NoNulBelow (idle [0x41#8]) (idle [0x41#8]).cap.toNat := by
  refine ⟨abc_firstNul, ⟨by decide +kernel, by decide +kernel, fun a h => absurd h (Nat.not_lt_zero a)⟩, ?_⟩
  unfold NoNulBelow
  decide +kernel

theorem witness_Crc32StdRunsTheStandardLoop :
    (abc.issue 0x0C#8 0 4).len.toNat ≤ (abc.issue 0x0C#8 0 4).cap.toNat ∧
      3 < (abc.issue 0x0C#8 0 4).len.toNat ∧
      (abc.issue 0x0C#8 0 5).cap.toNat < (abc.issue 0x0C#8 0 5).len.toNat :=
  ⟨abc_len_cap, by decide, abc_len_above⟩

theorem witness_Crc32RefRunsTheReflectedLoop :
    (abc.issue 0x08#8 0 4).len.toNat ≤ (abc.issue 0x08#8 0 4).cap.toNat ∧
      3 < (abc.issue 0x08#8 0 4).len.toNat ∧
      (abc.issue 0x08#8 0 5).cap.toNat < (abc.issue 0x08#8 0 5).len.toNat :=
  ⟨abc_len_cap, by decide, abc_len_above⟩

theorem witness_Crc32TblLooksUpEachByte :
    (built.issue 0x09#8 0 4).len.toNat ≤ (built.issue 0x09#8 0 4).cap.toNat ∧
      (built.issue 0x09#8 0 4).t32v = true ∧ (abc.issue 0x09#8 0 4).t32v = false ∧
      3 < (built.issue 0x09#8 0 4).len.toNat ∧
      (abc.issue 0x09#8 0 5).cap.toNat < (abc.issue 0x09#8 0 5).len.toNat :=
  ⟨abc_len_cap, rfl, rfl, by decide, abc_len_above⟩

/-- One run for each clause that has a premise: a length-bounded one, CRC32.NT at z = 3 and z = 0, a build,
and a table command that builds. -/
theorem witness_CountersWhereACommandEnds :
    (∃ t, exec .crc16Bit (abc.issue 0x00#8 0 4) = .next t ∧ t.err = 0#2) ∧
      (∃ t, exec .crc32Nt abc = .next t ∧ t.err = 0#2 ∧ FirstNul abc 3) ∧
      (∃ t, exec .crc32Nt (idle [0#8]) = .next t ∧ t.err = 0#2 ∧ FirstNul (idle [0#8]) 0) ∧
      (∃ t, exec .t16Build abc = .next t ∧ t.err = 0#2) ∧
      ∃ t, exec .crc32Tbl (abc.issue 0x09#8 0 4) = .next t ∧ t.err = 0#2 ∧
        (abc.issue 0x09#8 0 4).t32v = false :=
  have h0 : FirstNul (idle [0#8]) 0 :=
    ⟨by decide +kernel, by decide +kernel, fun _ h => absurd h (Nat.not_lt_zero _)⟩
  ⟨⟨_, exec_crc16Bit_of_le abc_len_cap, by simp⟩, ⟨_, exec_crc32Nt_of_firstNul abc_firstNul, by simp, abc_firstNul⟩,
    ⟨_, exec_crc32Nt_of_firstNul h0, by simp, h0⟩, ⟨_, rfl, rfl⟩,
    ⟨_, exec_crc32Tbl_of_le (s := abc.issue 0x09#8 0 4) abc_len_cap, by simp, rfl⟩⟩

/-- The bit indexes of the reversal statements at their last values, and an entry index. -/
theorem witness_bit_indexes : 7 < 8 ∧ 31 < 32 ∧ 23 < 24 ∧ 8 ≤ 8 ∧ 255 < 256 := by decide

theorem witness_LookupInT16IsEightRounds :
    ∀ i (h : i < 256), table16[i] = round16^[8] (BitVec.ofNat 16 i) := fun i h => by
  rw [table16_getElem, entry16_eq h]

theorem witness_LookupInT32IsEightRounds :
    ∀ i (h : i < 256), table32[i] = round32s^[8] (BitVec.ofNat 32 i <<< 24) := fun i h => by
  rw [table32_getElem, entry32_eq h]

/-- With valid tables and with none, at LEN = CAP. -/
theorem witness_Crc16EnginesAgree :
    TablesValid (built.issue 0x01#8 0 4) ∧ TablesValid (abc.issue 0x01#8 0 4) ∧
      (built.issue 0x01#8 0 4).len.toNat ≤ (built.issue 0x01#8 0 4).cap.toNat :=
  ⟨built_tablesValid, abc_tablesValid, abc_len_cap⟩

theorem witness_Crc32EnginesAgree :
    TablesValid (built.issue 0x09#8 0 4) ∧ TablesValid (abc.issue 0x09#8 0 4) ∧
      (built.issue 0x09#8 0 4).len.toNat ≤ (built.issue 0x09#8 0 4).cap.toNat :=
  ⟨built_tablesValid, abc_tablesValid, abc_len_cap⟩

theorem witness_NullTerminatedAgreesWithStandard : FirstNul abc 3 := abc_firstNul

/-- The check string in a MSG of CAP = 9. -/
def check : State :=
  shown [0x31#8, 0x32#8, 0x33#8, 0x34#8, 0x35#8, 0x36#8, 0x37#8, 0x38#8, 0x39#8] 0x0C#8 0 9

theorem witness_Crc32CheckValue :
    TablesValid check ∧ check.len = 9#32 ∧ 9 ≤ check.cap.toNat ∧
      check.msgBytes 9 = [0x31#8, 0x32#8, 0x33#8, 0x34#8, 0x35#8, 0x36#8, 0x37#8, 0x38#8, 0x39#8] :=
  ⟨tablesValid_of_unset rfl rfl, rfl, by decide +kernel, by decide +kernel⟩

/-- Two states that differ in a working register, a counter, RES, RV, ERR and an entry of a table that is
not valid. -/
theorem witness_UnspecifiedStateIsNeverObserved :
    SameInputs abc
      { abc with r16 := 5, idx := 9, res := 7, rv := true, err := 2, t16 := abc.t16.set 1 3 } := by
  refine ⟨rfl, rfl, rfl, rfl, fun _ _ => rfl, rfl, rfl, fun h => ?_, fun h => ?_⟩ <;> cases h

/-- The same three bytes in memories of different CAP, with and without a valid table. -/
theorem witness_ResultDependsOnTheMessageAlone :
    let s := built.issue 0x09#8 0 3
    let t := (idle [0x41#8, 0x42#8, 0x43#8]).issue 0x09#8 1 3
    Instr.lengthBounded .crc32Tbl = true ∧ TablesValid s ∧ TablesValid t ∧ s.len = t.len ∧
      s.len.toNat ≤ s.cap.toNat ∧ t.len.toNat ≤ t.cap.toNat ∧
      ∀ a, a < s.len.toNat → s.msgByte a = t.msgByte a := by
  refine ⟨rfl, built_tablesValid, tablesValid_of_unset rfl rfl, rfl, ?_, ?_, ?_⟩ <;>
    decide +kernel

theorem witness_NullTerminatedResultDependsOnTheStringAlone :
    FirstNul abc 3 ∧ 3 < (idle [0x41#8, 0x42#8, 0x43#8, 0#8, 0x99#8]).cap.toNat ∧
      ∀ a, a ≤ 3 → abc.msgByte a = (idle [0x41#8, 0x42#8, 0x43#8, 0#8, 0x99#8]).msgByte a := by
  refine ⟨abc_firstNul, by decide +kernel, ?_⟩
  decide +kernel

/-- CRC32.STD with another ARG, REV8 with another LEN, and REV8 with other bits 31:8 of ARG. -/
theorem witness_UnusedOperandPortsAreIgnored :
    (Instr.operandUse .crc32Std = .len → (3 : Word) = (abc.issue 0x0C#8 1 3).len) ∧
      Instr.operandUse .crc32Std ≠ .arg ∧ Instr.operandUse .rev8 ≠ .len ∧
      (0xFFFFFF01#32).setWidth 8 = (abc.issue 0x03#8 0x01 0).arg.setWidth 8 :=
  ⟨fun _ => rfl, by decide, by decide, rfl⟩

theorem witness_FamiliesAreIndependent :
    (∃ t, exec .t16Build abc = .next t) ∧ (∃ t, exec .t32Build abc = .next t) ∧
      ∃ t, exec .rev8 abc = .next t := ⟨⟨_, rfl⟩, ⟨_, rfl⟩, ⟨_, rfl⟩⟩

/-- A run without a build (T16V = 1) that does not fault. -/
theorem witness_FrameOfCrc16Commands :
    ∃ t, exec .crc16Tbl (built.issue 0x01#8 0 4) = .next t ∧ t.err = 0#2 ∧
      (built.issue 0x01#8 0 4).t16v = true :=
  ⟨_, exec_crc16Tbl_of_le (s := built.issue 0x01#8 0 4) abc_len_cap, by simp, rfl⟩

theorem witness_FrameOfCrc32Commands :
    (∃ t, exec .crc32Tbl (built.issue 0x09#8 0 4) = .next t ∧ t.err = 0#2 ∧
      (built.issue 0x09#8 0 4).t32v = true) ∧
      ∃ t, exec .crc32Nt abc = .next t ∧ t.err = 0#2 :=
  ⟨⟨_, exec_crc32Tbl_of_le (s := built.issue 0x09#8 0 4) abc_len_cap, by simp, rfl⟩,
    ⟨_, exec_crc32Nt_of_firstNul abc_firstNul, by simp⟩⟩

theorem witness_FrameOfReversals : ∃ t, exec .rev32 abc = .next t := ⟨_, rfl⟩

/-- A step at either grain, and a caller's write at the last index below CAP. -/
theorem witness_OnlyTheCallerWritesTheMessage :
    (∃ t, step midByte = .next t) ∧ (∃ t, seqStep midByte = .next t) ∧ abc.busy = false ∧
      3 < abc.cap.toNat := ⟨⟨_, rfl⟩, ⟨_, rfl⟩, rfl, by decide +kernel⟩

/-- T16.BUILD before the last round of its last entry: the sequencing step that raises T16V. -/
def lastRound : State :=
  (((abc.issue 0x02#8 0 0).accept.build16 (round16^[7] (seed16 255)) 7 255).setPhase .fill)

theorem witness_ValidFlagsRiseInBuildsAndFallInReset :
    (∃ t, exec .t16Build abc = .next t ∧ t.t16v ≠ abc.t16v) ∧
      (∃ t, exec .t32Build abc = .next t ∧ t.t32v ≠ abc.t32v) ∧
      (∃ t, seqStep lastRound = .next t ∧ t.t16v ≠ lastRound.t16v) ∧
      ∃ t, callerMove (.issue 0x01#8 0 0) built = .next t ∧ built.t16v = true :=
  ⟨⟨_, rfl, by decide⟩, ⟨_, rfl, by decide⟩, ⟨_, rfl, by decide⟩, ⟨_, rfl, rfl⟩⟩

theorem witness_ResultIsReadableExactlyWhileValid :
    { abc with rv := true }.rv = true ∧ abc.rv = false := ⟨rfl, rfl⟩

theorem witness_NothingIsExposedWhileBusy :
    ∃ t, Inv midByte ∧ midByte.busy = true ∧ seqStep midByte = .next t ∧ t.busy = true :=
  ⟨_, midByte_inv, rfl, rfl, rfl⟩

theorem witness_ResetAbandonsTheRunningCommand : decode 0x0A#8 = .ok .t32Build := by decide

theorem witness_MessageMemoryReadsWhatWasWritten : Memory.wf abc.msg ∧ 2 ≠ 3 :=
  ⟨abc_messageWf.1, by decide⟩

/-- A busy state of the invariant and its next state, at either grain. -/
theorem witness_StepKeepsInvariant : ∃ t, Inv midByte ∧ step midByte = .next t := ⟨_, midByte_inv, rfl⟩

theorem witness_SequencingKeepsInvariant : ∃ t, Inv midByte ∧ seqStep midByte = .next t :=
  ⟨_, midByte_inv, rfl⟩

theorem witness_CallerMovesKeepInvariant :
    (∃ t, Inv midByte ∧ callerMove (.issue 0x02#8 0 0) midByte = .next t) ∧
      ∃ t, Inv midByte ∧ callerMove .reset midByte = .next t :=
  ⟨⟨_, midByte_inv, rfl⟩, ⟨_, midByte_inv, rfl⟩⟩

theorem witness_InvariantStatesAlwaysStep : Inv midByte := midByte_inv

theorem witness_ReachableStatesMeetInvariant : Reachable (State.reset.issue 0x02#8 0 0) :=
  .move (m := .issue 0x02#8 0 0) .reset rfl

theorem witness_SequencingReachesTheTransaction :
    decode (abc.issue 0x0D#8 0 0).cmd = .ok .crc32Nt ∧
      decode (abc.issue 0x0E#8 0 0).cmd = .error .noSuchOperation := ⟨by decide, by decide⟩

theorem witness_RunningCommandAlwaysEnds : Inv midByte ∧ midByte.busy = true := ⟨midByte_inv, rfl⟩

end Sys2Proof.Tests
end

section
namespace Sys2Proof.Machine

/-! ### What the caller can see of a sequencing step -/

/-- A sequencing step of the command `i` that leaves BUSY = 1 writes neither RV nor ERR nor RES, and a
valid flag changes only by rising: in the lazy build of its own table command, or with the fall of BUSY
at the end of its own build (10_state.md R24, R28; 20_memory.md R57). -/
def StepExposes (i : Instr) (s t : State) : Prop :=
  (t.busy = true → t.rv = s.rv ∧ t.err = s.err ∧ t.res = s.res) ∧
    (t.t16v = s.t16v ∨ t.t16v = true ∧ (i = .crc16Tbl ∨ i = .t16Build ∧ t.busy = false)) ∧
    (t.t32v = s.t32v ∨ t.t32v = true ∧ (i = .crc32Tbl ∨ i = .t32Build ∧ t.busy = false))

variable {i : Instr} {s t : State}

theorem StepExposes.lengthChecked {body : State → State} (h : StepExposes i s (body s)) :
    StepExposes i s (lengthChecked s body) := by
  unfold Machine.lengthChecked
  split
  · exact h
  · simp [StepExposes]

theorem StepExposes.startBytes16 (i : Instr) (s : State) : StepExposes i s s.startBytes16 := by
  simp [StepExposes, State.startBytes16]

theorem StepExposes.startBytes32 (i : Instr) (s : State) : StepExposes i s s.startBytes32 := by
  simp [StepExposes, State.startBytes32]

theorem StepExposes.startFill16 (i : Instr) (s : State) : StepExposes i s s.startFill16 := by
  simp [StepExposes, State.startFill16]

theorem StepExposes.startFill32 (i : Instr) (s : State) : StepExposes i s s.startFill32 := by
  simp [StepExposes, State.startFill32]

theorem StepExposes.roundStep16 (i : Instr) (s : State) : StepExposes i s s.roundStep16 := by
  unfold State.roundStep16; split <;> simp [StepExposes]

theorem StepExposes.roundStep32 (i : Instr) (s : State) (f : Word → Word) :
    StepExposes i s (s.roundStep32 f) := by
  unfold State.roundStep32; split <;> simp [StepExposes]

theorem StepExposes.roundStepNt (i : Instr) (s : State) : StepExposes i s s.roundStepNt := by
  simp only [State.roundStepNt]; split <;> simp [StepExposes]

/-- The rounds of a fill expose nothing; `done` is what follows the last of them. -/
theorem StepExposes.fillStep16 {done : State → State}
    (h : ∀ u : State, u.t16v = true → u.t32v = s.t32v → u.rv = s.rv → u.err = s.err → u.res = s.res →
      StepExposes i s (done u)) : StepExposes i s (s.fillStep16 done) := by
  simp only [State.fillStep16]
  split
  · simp [StepExposes]
  · split
    · simp [StepExposes]
    · exact h _ rfl rfl rfl rfl rfl

theorem StepExposes.fillStep32 {done : State → State}
    (h : ∀ u : State, u.t32v = true → u.t16v = s.t16v → u.rv = s.rv → u.err = s.err → u.res = s.res →
      StepExposes i s (done u)) : StepExposes i s (s.fillStep32 done) := by
  simp only [State.fillStep32]
  split
  · simp [StepExposes]
  · split
    · simp [StepExposes]
    · exact h _ rfl rfl rfl rfl rfl

theorem StepExposes.nextByte {fin : State} {use : Byte → State} (h : s.nextByte use fin = .next t)
    (hu : ∀ b, StepExposes i s (use b)) (hf : StepExposes i s fin) : StepExposes i s t := by
  rcases State.nextByte_next h with ⟨_, _, rfl⟩ | ⟨_, rfl⟩
  · exact hu _
  · exact hf

theorem StepExposes.nextByteNt (h : s.nextByteNt = .next t) : StepExposes i s t := by
  unfold State.nextByteNt at h
  split at h
  · cases h; simp [StepExposes]
  · obtain ⟨_, rfl⟩ := State.withByte_next h
    split <;> simp [StepExposes]

/-! ### One step of the running command -/

/-- The step of a running command, by the command. -/
def tickOf (i : Instr) (s : State) : Host.Outcome State Fault Refusal :=
  match i with
  | .crc16Bit => tickCrc16Bit s
  | .crc16Tbl => tickCrc16Tbl s
  | .t16Build => tickT16Build s
  | .rev8 => tickRev8 s
  | .crc32Ref => tickCrc32Ref s
  | .crc32Tbl => tickCrc32Tbl s
  | .t32Build => tickT32Build s
  | .rev32 => tickRev32 s
  | .crc32Std => tickCrc32Std s
  | .crc32Nt => tickCrc32Nt s

theorem tick_of_ok (h : decode s.runCmd = .ok i) : tick s = tickOf i s := by
  unfold tick
  rw [h]
  cases i <;> rfl

theorem tick_of_error {e : DecodeError} (h : decode s.runCmd = .error e) :
    tick s = .next (s.raiseFault .illegalCommand) := by
  unfold tick
  rw [h]

theorem tickCrc16Bit_stepExposes (h : tickCrc16Bit s = .next t) : StepExposes .crc16Bit s t := by
  unfold tickCrc16Bit at h
  split at h
  · cases h; exact .lengthChecked (.startBytes16 _ s)
  · exact .nextByte h (fun b => by simp [StepExposes]) (by simp [StepExposes])
  · cases h; exact .roundStep16 _ s
  · cases h

theorem tickCrc16Tbl_stepExposes (h : tickCrc16Tbl s = .next t) : StepExposes .crc16Tbl s t := by
  unfold tickCrc16Tbl at h
  split at h
  · cases h
    refine .lengthChecked ?_
    split
    · exact .startBytes16 _ s
    · exact .startFill16 _ s
  · cases h
    exact .fillStep16 fun u h16 h32 hv he hr => by
      simp [StepExposes, State.startBytes16, h16, h32, hv, he, hr]
  · exact .nextByte h (fun b => by simp [StepExposes]) (by simp [StepExposes])
  · cases h

theorem tickT16Build_stepExposes (h : tickT16Build s = .next t) : StepExposes .t16Build s t := by
  unfold tickT16Build at h
  split at h <;> cases h
  · exact .startFill16 _ s
  · exact .fillStep16 fun u h16 h32 hv he hr => by simp [StepExposes, h16, h32]

theorem tickRev8_stepExposes (h : tickRev8 s = .next t) : StepExposes .rev8 s t := by
  unfold tickRev8 at h
  split at h <;> cases h
  simp [StepExposes]

theorem tickCrc32Ref_stepExposes (h : tickCrc32Ref s = .next t) : StepExposes .crc32Ref s t := by
  unfold tickCrc32Ref at h
  split at h
  · cases h; exact .lengthChecked (.startBytes32 _ s)
  · exact .nextByte h (fun b => by simp [StepExposes]) (by simp [StepExposes])
  · cases h; exact .roundStep32 _ s _
  · cases h

theorem tickCrc32Tbl_stepExposes (h : tickCrc32Tbl s = .next t) : StepExposes .crc32Tbl s t := by
  unfold tickCrc32Tbl at h
  split at h
  · cases h
    refine .lengthChecked ?_
    split
    · exact .startBytes32 _ s
    · exact .startFill32 _ s
  · cases h
    exact .fillStep32 fun u h32 h16 hv he hr => by
      simp [StepExposes, State.startBytes32, h16, h32, hv, he, hr]
  · exact .nextByte h (fun b => by simp [StepExposes]) (by simp [StepExposes])
  · cases h

theorem tickT32Build_stepExposes (h : tickT32Build s = .next t) : StepExposes .t32Build s t := by
  unfold tickT32Build at h
  split at h <;> cases h
  · exact .startFill32 _ s
  · exact .fillStep32 fun u h32 h16 hv he hr => by simp [StepExposes, h16, h32]

theorem tickRev32_stepExposes (h : tickRev32 s = .next t) : StepExposes .rev32 s t := by
  unfold tickRev32 at h
  split at h <;> cases h
  simp [StepExposes]

theorem tickCrc32Std_stepExposes (h : tickCrc32Std s = .next t) : StepExposes .crc32Std s t := by
  unfold tickCrc32Std at h
  split at h
  · cases h; exact .lengthChecked (.startBytes32 _ s)
  · exact .nextByte h (fun b => by simp [StepExposes]) (by simp [StepExposes])
  · cases h; exact .roundStep32 _ s _
  · cases h

theorem tickCrc32Nt_stepExposes (h : tickCrc32Nt s = .next t) : StepExposes .crc32Nt s t := by
  unfold tickCrc32Nt at h
  split at h
  · cases h; exact .startBytes32 _ s
  · exact .nextByteNt h
  · cases h; exact .roundStepNt _ s
  · cases h

/-- What a step of the command `i` exposes, whatever state it is taken in. -/
theorem tickOf_stepExposes (h : tickOf i s = .next t) : StepExposes i s t := by
  cases i with
  | crc16Bit => exact tickCrc16Bit_stepExposes h
  | crc16Tbl => exact tickCrc16Tbl_stepExposes h
  | t16Build => exact tickT16Build_stepExposes h
  | rev8 => exact tickRev8_stepExposes h
  | crc32Ref => exact tickCrc32Ref_stepExposes h
  | crc32Tbl => exact tickCrc32Tbl_stepExposes h
  | t32Build => exact tickT32Build_stepExposes h
  | rev32 => exact tickRev32_stepExposes h
  | crc32Std => exact tickCrc32Std_stepExposes h
  | crc32Nt => exact tickCrc32Nt_stepExposes h
end Sys2Proof.Machine
end

section
namespace Sys2Proof.Machine

/-! ### What the invariant says of a running command, kept by every sequencing step -/

/-- The part of the invariant that the steps of the running command `i` have to keep up: set flags mean
valid entries, and while BUSY = 1 the command is at a place of its sequence. -/
def InCourse (i : Instr) (s : State) : Prop :=
  TablesValid s ∧ (s.busy = true → Position i s)

/-- MSG, CAP and the sampled LEN are as they were. -/
def SameMessage (s t : State) : Prop := t.msg = s.msg ∧ t.cap = s.cap ∧ t.runLen = s.runLen

section
variable {i : Instr} {s t : State}

/-- A step that writes no table and no flag keeps up the invariant if it arrives at a place of its
command's sequence. -/
theorem InCourse.of_position (hv : TablesValid s) (h1 : t.t16 = s.t16) (h2 : t.t32 = s.t32)
    (h3 : t.t16v = s.t16v) (h4 : t.t32v = s.t32v) (hp : Position i t) : InCourse i t :=
  ⟨hv.of_eq h1 h2 h3 h4, fun _ => hp⟩

theorem InCourse.workNt (hv : TablesValid s) {q : Word × Word} {n : Word} {k : BitVec 4} {p : Phase}
    (hp : Position i ((s.workNt q n k).setPhase p)) : InCourse i ((s.workNt q n k).setPhase p) :=
  .of_position hv rfl rfl rfl rfl hp

/-- At a command's end only the tables matter. -/
theorem InCourse.of_idle (hv : TablesValid s) (h1 : t.t16 = s.t16) (h2 : t.t32 = s.t32)
    (h3 : t.t16v = s.t16v) (h4 : t.t32v = s.t32v) (hb : t.busy = false) : InCourse i t :=
  ⟨hv.of_eq h1 h2 h3 h4, fun h => absurd (hb.symm.trans h) Bool.false_ne_true⟩

theorem InCourse.raiseFault (hv : TablesValid s) (f : CmdFault) : InCourse i (s.raiseFault f) :=
  .of_idle hv rfl rfl rfl rfl rfl

theorem InCourse.completeWith (hv : TablesValid s) (v : Word) : InCourse i (s.completeWith v) :=
  .of_idle hv rfl rfl rfl rfl rfl

theorem InCourse.completeSilent (hv : TablesValid s) : InCourse i s.completeSilent :=
  .of_idle hv rfl rfl rfl rfl rfl

theorem InCourse.lengthChecked {body : State → State} (hv : TablesValid s)
    (h : s.byteCount ≤ s.cap.toNat → InCourse i (body s)) : InCourse i (lengthChecked s body) := by
  unfold Machine.lengthChecked
  split
  · exact h ‹_›
  · exact .raiseFault hv _

/-- Between two bytes of a length-bounded command: what the step owes for the next byte, and at the end. -/
theorem InCourse.nextByte {fin : State} {use : Byte → State} (h : s.nextByte use fin = .next t)
    (hu : s.idx.toNat < s.byteCount → InCourse i (use s.thisByte)) (hf : InCourse i fin) :
    InCourse i t := by
  rcases State.nextByte_next h with ⟨hlt, _, rfl⟩ | ⟨_, rfl⟩
  · exact hu hlt
  · exact hf

/-! ### The bytes done -/

theorem SameMessage.msgByte (h : SameMessage s t) (a : Nat) : t.msgByte a = s.msgByte a := by
  simp [State.msgByte, h.1]

theorem SameMessage.cap (h : SameMessage s t) : t.cap = s.cap := h.2.1

theorem SameMessage.byteCount (h : SameMessage s t) : t.byteCount = s.byteCount := by
  simp [State.byteCount, h.2.2]

/-- With IDX where it was, the bytes done and the byte in work are what they were. -/
theorem SameMessage.doneBytes (h : SameMessage s t) (hi : t.idx = s.idx) :
    t.doneBytes = s.doneBytes := by
  rw [State.doneBytes, hi]
  exact State.msgBytes_congr fun a _ => h.msgByte a

theorem SameMessage.thisByte (h : SameMessage s t) (hi : t.idx = s.idx) : t.thisByte = s.thisByte := by
  rw [State.thisByte, hi]
  exact h.msgByte _

theorem doneBytes_of_idx_zero (h : s.idx = 0) : s.doneBytes = [] := by simp [State.doneBytes, h]

/-- When IDX advances, the byte it pointed at joins the bytes done. -/
theorem SameMessage.foldl_doneBytes_succ {α : Type} (f : α → Byte → α) (x : α) (h : SameMessage s t)
    (hi : t.idx.toNat = s.idx.toNat + 1) :
    t.doneBytes.foldl f x = f (s.doneBytes.foldl f x) s.thisByte := by
  rw [State.doneBytes, hi, State.msgBytes_congr fun a _ => h.msgByte a, State.foldl_msgBytes_succ]
  rfl

/-! ### The counters of a length-bounded command -/

theorem BetweenBytes.of_idx_zero (hc : s.byteCount ≤ s.cap.toNat) (h : s.idx = 0) : BetweenBytes s :=
  ⟨hc, by simp [h]⟩

/-- An absorb enters the byte at IDX. -/
theorem BetweenBytes.absorb (h : BetweenBytes s) (hlt : s.idx.toNat < s.byteCount)
    (hm : SameMessage s t) (hi : t.idx = s.idx) (hr : t.rnd = 0) : InsideByte t := by
  obtain ⟨hc, -⟩ := h
  rw [InsideByte, hm.byteCount, hm.cap, hi, hr]
  exact ⟨hc, hlt, by simp⟩

/-- A byte used up in one step leaves the command before the next. -/
theorem BetweenBytes.step (h : BetweenBytes s) (hlt : s.idx.toNat < s.byteCount)
    (hm : SameMessage s t) (hi : t.idx.toNat = s.idx.toNat + 1) : BetweenBytes t := by
  obtain ⟨hc, -⟩ := h
  rw [BetweenBytes, hm.byteCount, hm.cap, hi]
  exact ⟨hc, hlt⟩

theorem InsideByte.rnd_lt (h : InsideByte s) : s.rnd.toNat < 8 := h.2.2

theorem InsideByte.idx_succ (h : InsideByte s) : (s.idx + 1).toNat = s.idx.toNat + 1 := by
  obtain ⟨hc, hi, -⟩ := h
  exact Machine.idx_succ hi hc

/-- The round that ends a byte leaves the command between two bytes. -/
theorem InsideByte.lastRound (h : InsideByte s) (hm : SameMessage s t) (hi : t.idx = s.idx + 1) :
    BetweenBytes t := by
  have hidx := h.idx_succ
  obtain ⟨hc, hlt, -⟩ := h
  exact BetweenBytes.step ⟨hc, hlt.le⟩ hlt hm (hi ▸ hidx)

/-- A round that does not end a byte leaves the command inside it. -/
theorem InsideByte.round (h : InsideByte s) (hl : s.rnd.toNat + 1 < 8) (hm : SameMessage s t)
    (hi : t.idx = s.idx) (hr : t.rnd = s.rnd + 1) : InsideByte t := by
  obtain ⟨hc, hlt, hk⟩ := h
  rw [InsideByte, hm.byteCount, hm.cap, hi, hr, rnd_succ hk]
  exact ⟨hc, hlt, hl⟩

/-! ### The register of a bit engine -/

/-- The register of a bit engine after the bytes done: from `x`, an absorb `ab` and eight rounds `f` for
each byte. -/
def bitReg {α : Type} (f : α → α) (ab : α → Byte → α) (x : α) (bs : List Byte) : α :=
  bs.foldl (fun r b => f^[8] (ab r b)) x

/-- The absorb of CRC32.NT: B32 takes the placed byte (42_crc32_bit.md R124). -/
def absorbNt (p : Word × Word) (b : Byte) : Word × Word := (p.1, place b)

theorem crc16Reg_eq_bitReg : crc16Reg = bitReg round16 absorb16 init16 := rfl

theorem crc32RefReg_eq_bitReg : crc32RefReg = bitReg round32r absorb32r init32 := rfl

theorem crc32StdReg_eq_bitReg : crc32StdReg = bitReg round32s absorb32s init32 := rfl

theorem crc32NtReg_eq_bitReg (b32 : Word) :
    crc32NtReg b32 = bitReg roundnt absorbNt (init32, b32) := rfl

variable {α : Type} {f : α → α} {ab : α → Byte → α} {x r : α}

/-- An absorb begins the byte in work. -/
theorem bitReg_absorb (hm : SameMessage s t) (hi : t.idx = s.idx) (ht : t.rnd = 0)
    (h : r = bitReg f ab x s.doneBytes) :
    ab r s.thisByte = f^[t.rnd.toNat] (ab (bitReg f ab x t.doneBytes) t.thisByte) := by
  rw [hm.doneBytes hi, hm.thisByte hi, ht, h]
  rfl

/-- One more round of the byte in work. -/
theorem bitReg_round (hm : SameMessage s t) (hi : t.idx = s.idx) (hk : s.rnd.toNat < 8)
    (ht : t.rnd = s.rnd + 1) (h : r = f^[s.rnd.toNat] (ab (bitReg f ab x s.doneBytes) s.thisByte)) :
    f r = f^[t.rnd.toNat] (ab (bitReg f ab x t.doneBytes) t.thisByte) := by
  rw [hm.doneBytes hi, hm.thisByte hi, ht, rnd_succ hk, h, Function.iterate_succ_apply']

/-- The eighth round ends the byte in work. -/
theorem bitReg_lastRound (hm : SameMessage s t) (hi : t.idx.toNat = s.idx.toNat + 1)
    (hk : s.rnd.toNat < 8) (hl : ¬s.rnd.toNat + 1 < 8)
    (h : r = f^[s.rnd.toNat] (ab (bitReg f ab x s.doneBytes) s.thisByte)) :
    f r = bitReg f ab x t.doneBytes := by
  rw [bitReg, hm.foldl_doneBytes_succ _ _ hi, h, ← Function.iterate_succ_apply' f,
    show s.rnd.toNat.succ = 8 by omega]
  rfl

/-! ### A length-bounded bit engine -/

/-- Between two bytes: the register `r` holds the bytes done. -/
def BetweenBitBytes (f : α → α) (ab : α → Byte → α) (x r : α) (s : State) : Prop :=
  BetweenBytes s ∧ r = bitReg f ab x s.doneBytes

/-- Inside a byte: the register `r` is RND rounds past the absorb of the byte in work. -/
def InsideBitByte (f : α → α) (ab : α → Byte → α) (x r : α) (s : State) : Prop :=
  InsideByte s ∧ r = f^[s.rnd.toNat] (ab (bitReg f ab x s.doneBytes) s.thisByte)

theorem BetweenBitBytes.start (hc : s.byteCount ≤ s.cap.toNat) (h : s.idx = 0) (x : α) :
    BetweenBitBytes f ab x x s :=
  ⟨.of_idx_zero hc h, by rw [doneBytes_of_idx_zero h]; rfl⟩

theorem BetweenBitBytes.absorb (h : BetweenBitBytes f ab x r s) (hlt : s.idx.toNat < s.byteCount)
    (hm : SameMessage s t) (hi : t.idx = s.idx) (hr : t.rnd = 0) :
    InsideBitByte f ab x (ab r s.thisByte) t :=
  ⟨h.1.absorb hlt hm hi hr, bitReg_absorb hm hi hr h.2⟩

theorem InsideBitByte.round (h : InsideBitByte f ab x r s) (hl : s.rnd.toNat + 1 < 8)
    (hm : SameMessage s t) (hi : t.idx = s.idx) (hr : t.rnd = s.rnd + 1) :
    InsideBitByte f ab x (f r) t :=
  ⟨h.1.round hl hm hi hr, bitReg_round hm hi h.1.rnd_lt hr h.2⟩

theorem InsideBitByte.lastRound (h : InsideBitByte f ab x r s) (hl : ¬s.rnd.toNat + 1 < 8)
    (hm : SameMessage s t) (hi : t.idx = s.idx + 1) : BetweenBitBytes f ab x (f r) t :=
  ⟨h.1.lastRound hm hi, bitReg_lastRound hm (hi ▸ h.1.idx_succ) h.1.rnd_lt hl h.2⟩

/-! ### Table builds -/

/-- Writing its own value to entry `j` keeps every entry that holds its value. -/
theorem getElem_write_of_value {v : α} {tab : Vector α 256} {e : Nat → α} {j k : Nat} (hv : v = e j)
    (hk : k < 256) (h : k ≠ j → tab[k] = e k) : (tab.setIfInBounds j v)[k] = e k := by
  rw [Vector.getElem_setIfInBounds]
  split
  · subst k; exact hv
  · exact h (Ne.symm ‹_›)

theorem TablesValid.writeT16 (hv : TablesValid s) {j : Nat} {v : Half} (h : v = entry16 j) :
    TablesValid (s.writeT16 j v) :=
  ⟨fun hf k hk => getElem_write_of_value h hk fun _ => hv.1 hf k hk, hv.2⟩

theorem TablesValid.writeT32 (hv : TablesValid s) {j : Nat} {v : Word} (h : v = entry32 j) :
    TablesValid (s.writeT32 j v) :=
  ⟨hv.1, fun hf k hk => getElem_write_of_value h hk fun _ => hv.2 hf k hk⟩

/-- An entry just seeded, with all before it written. -/
theorem Filling16.of_seed (hx : s.tidx.toNat < 256) (hr : s.rnd = 0) (h : s.r16 = seed16 s.tidx)
    (hw : ∀ k (_ : k < 256), k < s.tidx.toNat → s.t16[k] = entry16 k) : Filling16 s :=
  ⟨hx, by simp [hr], by rw [hr, h]; rfl, hw⟩

theorem Filling32.of_seed (hx : s.tidx.toNat < 256) (hr : s.rnd = 0) (h : s.r32 = seed32 s.tidx)
    (hw : ∀ k (_ : k < 256), k < s.tidx.toNat → s.t32[k] = entry32 k) : Filling32 s :=
  ⟨hx, by simp [hr], by rw [hr, h]; rfl, hw⟩

theorem Filling16.startFill16 (s : State) : Filling16 s.startFill16 :=
  .of_seed (by simp [State.startFill16]) rfl rfl fun k _ h => by simp [State.startFill16] at h

theorem Filling32.startFill32 (s : State) : Filling32 s.startFill32 :=
  .of_seed (by simp [State.startFill32]) rfl rfl fun k _ h => by simp [State.startFill32] at h

/-- The eighth round of an entry gives its value. -/
theorem Filling16.entry (h : Filling16 s) (hl : ¬s.rnd.toNat + 1 < 8) :
    round16 s.r16 = entry16 s.tidx.toNat := by
  obtain ⟨_, hr, h, _⟩ := h
  rw [h, ← Function.iterate_succ_apply' round16, show s.rnd.toNat.succ = 8 by omega, entry16,
    BitVec.ofNat_toNat, BitVec.setWidth_eq]

theorem Filling32.entry (h : Filling32 s) (hl : ¬s.rnd.toNat + 1 < 8) :
    round32s s.r32 = entry32 s.tidx.toNat := by
  obtain ⟨_, hr, h, _⟩ := h
  rw [h, ← Function.iterate_succ_apply' round32s, show s.rnd.toNat.succ = 8 by omega, entry32,
    BitVec.ofNat_toNat, BitVec.setWidth_eq]

/-- A round of a T16 fill goes on filling or, after the last entry, hands `done` a valid table. -/
theorem Filling16.fillStep16 {done : State → State} (h : Filling16 s) (hv : TablesValid s)
    (hgo : ∀ u, Filling16 u → SameMessage s u → u.phase = s.phase → Position i u)
    (hdone : ∀ u, TablesValid u → u.t16v = true → SameMessage s u → InCourse i (done u)) :
    InCourse i (s.fillStep16 done) := by
  obtain ⟨hx, hr, hreg, hw⟩ := id h
  simp only [State.fillStep16]
  split
  next hl =>
    refine .of_position hv rfl rfl rfl rfl (hgo _ ⟨hx, ?_, ?_, hw⟩ (by simp [SameMessage]) (by simp))
    · rwa [State.build16_rnd, rnd_succ hr]
    · rw [State.build16_rnd, rnd_succ hr, State.build16_r16, hreg, Function.iterate_succ_apply',
        State.build16_tidx]
  next hl =>
    have he := h.entry hl
    split
    next hlast =>
      refine ⟨(hv.writeT16 he).of_eq rfl rfl rfl rfl, fun _ =>
        hgo _ (.of_seed ?_ rfl ?_ fun k hk hlt => ?_) (by simp [SameMessage])
          (by simp)⟩
      · simpa only [State.build16_tidx, State.writeT16_tidx, tidx_succ hx] using hlast
      · simp only [State.build16_tidx, State.build16_r16]
      · simp only [State.build16_tidx, State.writeT16_tidx, tidx_succ hx] at hlt
        exact getElem_write_of_value he hk fun _ => hw k hk (by omega)
    next hlast =>
      refine hdone _ ⟨fun _ k hk => ?_, hv.2⟩ rfl ⟨rfl, rfl, rfl⟩
      exact getElem_write_of_value he hk fun _ => hw k hk (by omega)

theorem Filling32.fillStep32 {done : State → State} (h : Filling32 s) (hv : TablesValid s)
    (hgo : ∀ u, Filling32 u → SameMessage s u → u.phase = s.phase → Position i u)
    (hdone : ∀ u, TablesValid u → u.t32v = true → SameMessage s u → InCourse i (done u)) :
    InCourse i (s.fillStep32 done) := by
  obtain ⟨hx, hr, hreg, hw⟩ := id h
  simp only [State.fillStep32]
  split
  next hl =>
    refine .of_position hv rfl rfl rfl rfl (hgo _ ⟨hx, ?_, ?_, hw⟩ (by simp [SameMessage]) (by simp))
    · rwa [State.build32_rnd, rnd_succ hr]
    · rw [State.build32_rnd, rnd_succ hr, State.build32_r32, hreg, Function.iterate_succ_apply',
        State.build32_tidx]
  next hl =>
    have he := h.entry hl
    split
    next hlast =>
      refine ⟨(hv.writeT32 he).of_eq rfl rfl rfl rfl, fun _ =>
        hgo _ (.of_seed ?_ rfl ?_ fun k hk hlt => ?_) (by simp [SameMessage])
          (by simp)⟩
      · simpa only [State.build32_tidx, State.writeT32_tidx, tidx_succ hx] using hlast
      · simp only [State.build32_tidx, State.build32_r32]
      · simp only [State.build32_tidx, State.writeT32_tidx, tidx_succ hx] at hlt
        exact getElem_write_of_value he hk fun _ => hw k hk (by omega)
    next hlast =>
      refine hdone _ ⟨hv.1, fun _ k hk => ?_⟩ rfl ⟨rfl, rfl, rfl⟩
      exact getElem_write_of_value he hk fun _ => hw k hk (by omega)

end
end Sys2Proof.Machine
end

section
namespace Sys2Proof.Machine

/-! ### The places of a command in its sequence

One equation of `Position` for each place, in terms of the helpers above. `delta` opens the definition as
it stands, where its equation lemmas would be derived again for each theorem. -/

section
variable {i : Instr} {s t : State}

theorem position_of_start (h : s.phase = .start) : Position i s := by
  delta Position
  rw [h]
  cases i <;> exact trivial

theorem position_crc16Bit_bytes (h : s.phase = .bytes) :
    Position .crc16Bit s ↔ BetweenBitBytes round16 absorb16 init16 s.r16 s := by
  delta Position
  simp only [h, crc16Reg_eq_bitReg]
  rfl

theorem position_crc16Bit_rounds (h : s.phase = .rounds) :
    Position .crc16Bit s ↔ InsideBitByte round16 absorb16 init16 s.r16 s := by
  delta Position
  simp only [h, crc16Reg_eq_bitReg]
  rfl

theorem position_crc32Ref_bytes (h : s.phase = .bytes) :
    Position .crc32Ref s ↔ BetweenBitBytes round32r absorb32r init32 s.r32 s := by
  delta Position
  simp only [h, crc32RefReg_eq_bitReg]
  rfl

theorem position_crc32Ref_rounds (h : s.phase = .rounds) :
    Position .crc32Ref s ↔ InsideBitByte round32r absorb32r init32 s.r32 s := by
  delta Position
  simp only [h, crc32RefReg_eq_bitReg]
  rfl

theorem position_crc32Std_bytes (h : s.phase = .bytes) :
    Position .crc32Std s ↔ BetweenBitBytes round32s absorb32s init32 s.r32 s := by
  delta Position
  simp only [h, crc32StdReg_eq_bitReg]
  rfl

theorem position_crc32Std_rounds (h : s.phase = .rounds) :
    Position .crc32Std s ↔ InsideBitByte round32s absorb32s init32 s.r32 s := by
  delta Position
  simp only [h, crc32StdReg_eq_bitReg]
  rfl

theorem position_crc16Tbl_fill (h : s.phase = .fill) :
    Position .crc16Tbl s ↔ s.byteCount ≤ s.cap.toNat ∧ Filling16 s := by
  delta Position
  simp only [h]

theorem position_crc16Tbl_bytes (h : s.phase = .bytes) :
    Position .crc16Tbl s ↔
      BetweenBytes s ∧ s.t16v = true ∧ s.r16 = s.doneBytes.foldl (step16t s.t16) init16 := by
  delta Position
  simp only [h]
  rfl

theorem position_crc32Tbl_fill (h : s.phase = .fill) :
    Position .crc32Tbl s ↔ s.byteCount ≤ s.cap.toNat ∧ Filling32 s := by
  delta Position
  simp only [h]

theorem position_crc32Tbl_bytes (h : s.phase = .bytes) :
    Position .crc32Tbl s ↔
      BetweenBytes s ∧ s.t32v = true ∧ s.r32 = s.doneBytes.foldl (step32t s.t32) init32 := by
  delta Position
  simp only [h]
  rfl

theorem position_t16Build_fill (h : s.phase = .fill) : Position .t16Build s ↔ Filling16 s := by
  delta Position
  simp only [h]

theorem position_t32Build_fill (h : s.phase = .fill) : Position .t32Build s ↔ Filling32 s := by
  delta Position
  simp only [h]

theorem position_crc32Nt_bytes (h : s.phase = .bytes) :
    Position .crc32Nt s ↔ s.idx.toNat ≤ s.cap.toNat ∧ NoNulBelow s s.idx.toNat ∧
      s.r32 = (bitReg roundnt absorbNt (init32, 0) s.doneBytes).1 := by
  delta Position
  simp only [h, crc32NtReg_eq_bitReg]

theorem position_crc32Nt_rounds (h : s.phase = .rounds) :
    Position .crc32Nt s ↔ s.idx.toNat < s.cap.toNat ∧ NoNulBelow s (s.idx.toNat + 1) ∧
      s.rnd.toNat < 8 ∧ (s.r32, s.b32) = roundnt^[s.rnd.toNat]
        (absorbNt (bitReg roundnt absorbNt (init32, 0) s.doneBytes) s.thisByte) := by
  delta Position
  simp only [h, crc32NtReg_eq_bitReg]
  rfl

/-! ### The steps of each command -/

theorem tickCrc16Bit_inCourse (hv : TablesValid s) (hp : Position .crc16Bit s)
    (h : tickCrc16Bit s = .next t) : InCourse .crc16Bit t := by
  unfold tickCrc16Bit at h
  split at h
  next =>
    cases h
    refine .lengthChecked hv fun hc => .of_position hv rfl rfl rfl rfl ?_
    exact (position_crc16Bit_bytes rfl).2 (.start (s := s.startBytes16) hc rfl _)
  next hph =>
    refine .nextByte h (fun hlt => .of_position hv rfl rfl rfl rfl ?_) (.completeWith hv _)
    exact (position_crc16Bit_rounds rfl).2
      (((position_crc16Bit_bytes hph).1 hp).absorb hlt ⟨rfl, rfl, rfl⟩ rfl rfl)
  next hph =>
    have hin := (position_crc16Bit_rounds hph).1 hp
    cases h
    unfold State.roundStep16
    split
    next hl =>
      refine .of_position hv rfl rfl rfl rfl ?_
      exact (position_crc16Bit_rounds (by exact hph)).2 (hin.round hl ⟨rfl, rfl, rfl⟩ rfl rfl)
    next hl =>
      refine .of_position hv rfl rfl rfl rfl ?_
      exact (position_crc16Bit_bytes rfl).2 (hin.lastRound hl ⟨rfl, rfl, rfl⟩ rfl)
  next => cases h

/-- The rounds of the two length-bounded CRC-32 bit engines, which differ in the round `f`, the absorb `ab`
and what their places are called. -/
theorem InsideBitByte.roundStep32 {f : Word → Word} {ab : Word → Byte → Word} (hv : TablesValid s)
    (hph : s.phase = .rounds) (h : InsideBitByte f ab init32 s.r32 s)
    (hb : ∀ u : State, u.phase = .bytes → BetweenBitBytes f ab init32 u.r32 u → Position i u)
    (hr : ∀ u : State, u.phase = .rounds → InsideBitByte f ab init32 u.r32 u → Position i u) :
    InCourse i (s.roundStep32 f) := by
  unfold State.roundStep32
  split
  next hl => exact .of_position hv rfl rfl rfl rfl (hr _ hph (h.round hl ⟨rfl, rfl, rfl⟩ rfl rfl))
  next hl => exact .of_position hv rfl rfl rfl rfl (hb _ rfl (h.lastRound hl ⟨rfl, rfl, rfl⟩ rfl))

theorem tickCrc32Ref_inCourse (hv : TablesValid s) (hp : Position .crc32Ref s)
    (h : tickCrc32Ref s = .next t) : InCourse .crc32Ref t := by
  unfold tickCrc32Ref at h
  split at h
  next =>
    cases h
    refine .lengthChecked hv fun hc => .of_position hv rfl rfl rfl rfl ?_
    exact (position_crc32Ref_bytes rfl).2 (.start (s := s.startBytes32) hc rfl _)
  next hph =>
    refine .nextByte h (fun hlt => .of_position hv rfl rfl rfl rfl ?_) (.completeWith hv _)
    exact (position_crc32Ref_rounds rfl).2
      (((position_crc32Ref_bytes hph).1 hp).absorb hlt ⟨rfl, rfl, rfl⟩ rfl rfl)
  next hph =>
    cases h
    exact ((position_crc32Ref_rounds hph).1 hp).roundStep32 hv hph
      (fun _ hu => (position_crc32Ref_bytes hu).2) fun _ hu => (position_crc32Ref_rounds hu).2
  next => cases h

theorem tickCrc32Std_inCourse (hv : TablesValid s) (hp : Position .crc32Std s)
    (h : tickCrc32Std s = .next t) : InCourse .crc32Std t := by
  unfold tickCrc32Std at h
  split at h
  next =>
    cases h
    refine .lengthChecked hv fun hc => .of_position hv rfl rfl rfl rfl ?_
    exact (position_crc32Std_bytes rfl).2 (.start (s := s.startBytes32) hc rfl _)
  next hph =>
    refine .nextByte h (fun hlt => .of_position hv rfl rfl rfl rfl ?_) (.completeWith hv _)
    exact (position_crc32Std_rounds rfl).2
      (((position_crc32Std_bytes hph).1 hp).absorb hlt ⟨rfl, rfl, rfl⟩ rfl rfl)
  next hph =>
    cases h
    exact ((position_crc32Std_rounds hph).1 hp).roundStep32 hv hph
      (fun _ hu => (position_crc32Std_bytes hu).2) fun _ hu => (position_crc32Std_rounds hu).2
  next => cases h

/-- The loop of CRC16.TBL begins with a valid table. -/
theorem startBytes16_crc16Tbl_inCourse (hv : TablesValid s) (hf : s.t16v = true)
    (hc : s.byteCount ≤ s.cap.toNat) : InCourse .crc16Tbl s.startBytes16 :=
  .of_position hv rfl rfl rfl rfl <| (position_crc16Tbl_bytes rfl).2
    ⟨.of_idx_zero hc rfl, hf, by rw [doneBytes_of_idx_zero rfl]; rfl⟩

theorem startBytes32_crc32Tbl_inCourse (hv : TablesValid s) (hf : s.t32v = true)
    (hc : s.byteCount ≤ s.cap.toNat) : InCourse .crc32Tbl s.startBytes32 :=
  .of_position hv rfl rfl rfl rfl <| (position_crc32Tbl_bytes rfl).2
    ⟨.of_idx_zero hc rfl, hf, by rw [doneBytes_of_idx_zero rfl]; rfl⟩

theorem tickCrc16Tbl_inCourse (hv : TablesValid s) (hp : Position .crc16Tbl s)
    (h : tickCrc16Tbl s = .next t) : InCourse .crc16Tbl t := by
  unfold tickCrc16Tbl at h
  split at h
  next =>
    cases h
    refine .lengthChecked hv fun hc => ?_
    split
    next hf => exact startBytes16_crc16Tbl_inCourse hv hf hc
    next =>
      refine .of_position hv rfl rfl rfl rfl ?_
      exact (position_crc16Tbl_fill rfl).2 ⟨hc, .startFill16 s⟩
  next hph =>
    obtain ⟨hc, hfill⟩ := (position_crc16Tbl_fill hph).1 hp
    cases h
    refine hfill.fillStep16 hv (fun u hu hm hup => ?_) fun u hu hf hm => ?_
    · exact (position_crc16Tbl_fill (hup.trans hph)).2 ⟨by rwa [hm.byteCount, hm.cap], hu⟩
    · exact startBytes16_crc16Tbl_inCourse hu hf (by rwa [hm.byteCount, hm.cap])
  next hph =>
    obtain ⟨hb, hf, hr⟩ := (position_crc16Tbl_bytes hph).1 hp
    refine .nextByte h (fun hlt => .of_position hv rfl rfl rfl rfl ?_) (.completeWith hv _)
    have hi := idx_succ hlt hb.1
    have hm : SameMessage s (s.work16 (step16t s.t16 s.r16 s.thisByte) (s.idx + 1) s.rnd) :=
      ⟨rfl, rfl, rfl⟩
    refine (position_crc16Tbl_bytes (by exact hph)).2 ⟨hb.step hlt hm hi, hf, ?_⟩
    rw [hm.foldl_doneBytes_succ _ _ hi, State.work16_t16, ← hr, State.work16_r16]
  next => cases h

theorem tickCrc32Tbl_inCourse (hv : TablesValid s) (hp : Position .crc32Tbl s)
    (h : tickCrc32Tbl s = .next t) : InCourse .crc32Tbl t := by
  unfold tickCrc32Tbl at h
  split at h
  next =>
    cases h
    refine .lengthChecked hv fun hc => ?_
    split
    next hf => exact startBytes32_crc32Tbl_inCourse hv hf hc
    next =>
      refine .of_position hv rfl rfl rfl rfl ?_
      exact (position_crc32Tbl_fill rfl).2 ⟨hc, .startFill32 s⟩
  next hph =>
    obtain ⟨hc, hfill⟩ := (position_crc32Tbl_fill hph).1 hp
    cases h
    refine hfill.fillStep32 hv (fun u hu hm hup => ?_) fun u hu hf hm => ?_
    · exact (position_crc32Tbl_fill (hup.trans hph)).2 ⟨by rwa [hm.byteCount, hm.cap], hu⟩
    · exact startBytes32_crc32Tbl_inCourse hu hf (by rwa [hm.byteCount, hm.cap])
  next hph =>
    obtain ⟨hb, hf, hr⟩ := (position_crc32Tbl_bytes hph).1 hp
    refine .nextByte h (fun hlt => .of_position hv rfl rfl rfl rfl ?_) (.completeWith hv _)
    have hi := idx_succ hlt hb.1
    have hm : SameMessage s (s.work32 (step32t s.t32 s.r32 s.thisByte) (s.idx + 1) s.rnd) :=
      ⟨rfl, rfl, rfl⟩
    refine (position_crc32Tbl_bytes (by exact hph)).2 ⟨hb.step hlt hm hi, hf, ?_⟩
    rw [hm.foldl_doneBytes_succ _ _ hi, State.work32_t32, ← hr, State.work32_r32]
  next => cases h

theorem tickT16Build_inCourse (hv : TablesValid s) (hp : Position .t16Build s)
    (h : tickT16Build s = .next t) : InCourse .t16Build t := by
  unfold tickT16Build at h
  split at h
  next =>
    cases h
    exact .of_position hv rfl rfl rfl rfl ((position_t16Build_fill rfl).2 (.startFill16 s))
  next hph =>
    cases h
    exact ((position_t16Build_fill hph).1 hp).fillStep16 hv
      (fun _ hu _ hup => (position_t16Build_fill (hup.trans hph)).2 hu) fun _ hu _ _ => .completeSilent hu
  next => cases h
  next => cases h

theorem tickT32Build_inCourse (hv : TablesValid s) (hp : Position .t32Build s)
    (h : tickT32Build s = .next t) : InCourse .t32Build t := by
  unfold tickT32Build at h
  split at h
  next =>
    cases h
    exact .of_position hv rfl rfl rfl rfl ((position_t32Build_fill rfl).2 (.startFill32 s))
  next hph =>
    cases h
    exact ((position_t32Build_fill hph).1 hp).fillStep32 hv
      (fun _ hu _ hup => (position_t32Build_fill (hup.trans hph)).2 hu) fun _ hu _ _ => .completeSilent hu
  next => cases h
  next => cases h

theorem tickRev8_inCourse (hv : TablesValid s) (h : tickRev8 s = .next t) : InCourse .rev8 t := by
  unfold tickRev8 at h
  split at h <;> cases h
  exact .completeWith hv _

theorem tickRev32_inCourse (hv : TablesValid s) (h : tickRev32 s = .next t) : InCourse .rev32 t := by
  unfold tickRev32 at h
  split at h <;> cases h
  exact .completeWith hv _

/-- A byte of CRC32.NT is placed: `q` is R32 with the placed byte. -/
theorem position_crc32Nt_placed {q : Word × Word} (hlt : s.idx.toNat < s.cap.toNat)
    (hn : NoNulBelow s (s.idx.toNat + 1))
    (hq : q = absorbNt (bitReg roundnt absorbNt (init32, 0) s.doneBytes) s.thisByte) :
    Position .crc32Nt ((s.workNt q s.idx 0).setPhase .rounds) := by
  refine (position_crc32Nt_rounds rfl).2 ?_
  refine ⟨hlt, hn, by simp, hq.trans ?_⟩
  exact bitReg_absorb (f := roundnt) (s := s) ⟨rfl, rfl, rfl⟩ rfl rfl rfl

/-- Between two bytes of CRC32.NT: it faults at CAP, ends at a 0x00, or places a byte that is none. -/
theorem nextByteNt_inCourse (hv : TablesValid s) (hph : s.phase = .bytes) (hp : Position .crc32Nt s)
    (h : s.nextByteNt = .next t) : InCourse .crc32Nt t := by
  obtain ⟨-, hn, hr⟩ := (position_crc32Nt_bytes hph).1 hp
  unfold State.nextByteNt at h
  split at h
  next => cases h; exact .raiseFault hv _
  next =>
    obtain ⟨hlt, rfl⟩ := State.withByte_next h
    split
    next => exact .completeWith hv _
    next hb =>
      refine .workNt hv (position_crc32Nt_placed hlt (fun a ha => ?_) (by rw [hr]; rfl))
      rcases Nat.lt_succ_iff_lt_or_eq.1 ha with ha | rfl
      · exact hn a ha
      · exact hb

theorem roundStepNt_inCourse (hv : TablesValid s) (hph : s.phase = .rounds)
    (hp : Position .crc32Nt s) : InCourse .crc32Nt s.roundStepNt := by
  obtain ⟨hlt, hn, hk, hr⟩ := (position_crc32Nt_rounds hph).1 hp
  have hi := idx_succ hlt le_rfl
  simp only [State.roundStepNt]
  split
  next hl =>
    refine .of_position hv rfl rfl rfl rfl ((position_crc32Nt_rounds (by exact hph)).2 ?_)
    refine ⟨hlt, hn, ?_, ?_⟩
    · rwa [State.workNt_rnd, rnd_succ hk]
    · exact bitReg_round (f := roundnt) (s := s) ⟨rfl, rfl, rfl⟩ rfl hk rfl hr
  next hl =>
    refine .workNt hv ((position_crc32Nt_bytes rfl).2 ?_)
    refine ⟨?_, ?_, ?_⟩
    · rwa [State.setPhase_idx, State.workNt_idx, hi]
    · rwa [State.setPhase_idx, State.workNt_idx, hi]
    · exact congrArg Prod.fst (bitReg_lastRound (f := roundnt) (s := s) ⟨rfl, rfl, rfl⟩ hi hk hl hr)

theorem tickCrc32Nt_inCourse (hv : TablesValid s) (hp : Position .crc32Nt s)
    (h : tickCrc32Nt s = .next t) : InCourse .crc32Nt t := by
  unfold tickCrc32Nt at h
  split at h
  next =>
    cases h
    refine .of_position hv rfl rfl rfl rfl ((position_crc32Nt_bytes rfl).2 ⟨Nat.zero_le _, ?_, ?_⟩)
    · exact fun a ha => absurd ha (Nat.not_lt_zero a)
    · rw [doneBytes_of_idx_zero rfl]; rfl
  next hph => exact nextByteNt_inCourse hv hph hp h
  next hph => cases h; exact roundStepNt_inCourse hv hph hp
  next => cases h

/-- Every step of a command keeps valid tables valid and stays on the command's sequence. -/
theorem tickOf_inCourse (hv : TablesValid s) (hp : Position i s) (h : tickOf i s = .next t) :
    InCourse i t := by
  cases i with
  | crc16Bit => exact tickCrc16Bit_inCourse hv hp h
  | crc16Tbl => exact tickCrc16Tbl_inCourse hv hp h
  | t16Build => exact tickT16Build_inCourse hv hp h
  | rev8 => exact tickRev8_inCourse hv h
  | crc32Ref => exact tickCrc32Ref_inCourse hv hp h
  | crc32Tbl => exact tickCrc32Tbl_inCourse hv hp h
  | t32Build => exact tickT32Build_inCourse hv hp h
  | rev32 => exact tickRev32_inCourse hv h
  | crc32Std => exact tickCrc32Std_inCourse hv hp h
  | crc32Nt => exact tickCrc32Nt_inCourse hv hp h

/-! ### The invariant -/

theorem running_iff_of_ok (h : decode s.runCmd = .ok i) :
    Running s ↔ s.rv = false ∧ s.err = 0#2 ∧ Position i s := by
  unfold Running
  rw [h]

theorem MessageWf.of_eq (h : MessageWf s) (hm : t.msg = s.msg) (hc : t.cap = s.cap) : MessageWf t := by
  unfold MessageWf
  rw [hm, hc]
  exact h

/-- The invariant of an idle block speaks of the tables and MSG only. -/
theorem inv_of_idle (hv : TablesValid s) (hm : MessageWf s) (hb : s.busy = false) : Inv s :=
  ⟨hv, hm, fun h => absurd (hb.symm.trans h) Bool.false_ne_true⟩

/-- A sequencing step of a BUSY block keeps the invariant. -/
theorem tick_inv (hinv : Inv s) (hb : s.busy = true) (h : tick s = .next t) : Inv t := by
  obtain ⟨hv, hm, hrun⟩ := hinv
  obtain ⟨-, -, -, -, hcmd, -, -, hmsg, hcap⟩ := tick_sameOutside h
  cases hd : decode s.runCmd with
  | error e =>
    rw [tick_of_error hd] at h
    cases h
    exact inv_of_idle (hv.of_eq rfl rfl rfl rfl) hm rfl
  | ok i =>
    rw [tick_of_ok hd] at h
    obtain ⟨hrv, herr, hp⟩ := (running_iff_of_ok hd).1 (hrun hb)
    obtain ⟨hv', hp'⟩ := tickOf_inCourse hv hp h
    refine ⟨hv', hm.of_eq hmsg hcap, fun hbt => ?_⟩
    obtain ⟨hrv', herr', -⟩ := (tickOf_stepExposes h).1 hbt
    exact (running_iff_of_ok (hcmd ▸ hd)).2 ⟨hrv'.trans hrv, herr'.trans herr, hp' hbt⟩

/-- Acceptance puts the command at the start of its sequence (10_state.md R35). -/
theorem accept_inv (hinv : Inv s) : Inv s.accept := by
  obtain ⟨hv, hm, -⟩ := hinv
  refine ⟨hv, hm, fun _ => ⟨rfl, rfl, ?_⟩⟩
  split
  · exact position_of_start rfl
  · rfl

end
end Sys2Proof.Machine
end

section
namespace Sys2Proof.Machine

/-! ### The end of a command, case by case -/

/-- The states a command issued in `s` can end in (10_state.md R35), one constructor for each outcome of
its checks. -/
inductive CommandEnd (s : State) : Instr → State → Prop where
  | lengthFault {i : Instr} (hi : Instr.lengthBounded i = true) (hl : s.cap.toNat < s.len.toNat) :
      CommandEnd s i (s.accept.raiseFault .lengthExceedsBuffer)
  | terminatorFault (hn : NoNulBelow s s.cap.toNat) :
      CommandEnd s .crc32Nt (s.accept.raiseFault .missingTerminator)
  | crc16Bit (hl : s.len.toNat ≤ s.cap.toNat) : CommandEnd s .crc16Bit s.accept.runBit16.finish16
  | crc16Tbl (hl : s.len.toNat ≤ s.cap.toNat) :
      CommandEnd s .crc16Tbl s.accept.lazyBuild16.runTbl16.finish16
  | t16Build : CommandEnd s .t16Build s.accept.fullBuild16.completeSilent
  | rev8 : CommandEnd s .rev8 s.accept.finishRev8
  | crc32Ref (hl : s.len.toNat ≤ s.cap.toNat) : CommandEnd s .crc32Ref s.accept.runRef32.finishReflected
  | crc32Tbl (hl : s.len.toNat ≤ s.cap.toNat) :
      CommandEnd s .crc32Tbl s.accept.lazyBuild32.runTbl32.finishStandard
  | t32Build : CommandEnd s .t32Build s.accept.fullBuild32.completeSilent
  | rev32 : CommandEnd s .rev32 s.accept.finishRev32
  | crc32Std (hl : s.len.toNat ≤ s.cap.toNat) : CommandEnd s .crc32Std s.accept.runStd32.finishStandard
  | crc32Nt {z : Nat} (hz : FirstNul s z) :
      CommandEnd s .crc32Nt ((s.accept.workNt (crc32NtReg s.b32 (s.msgBytes z)) (BitVec.ofNat 32 z)
        (rndAfter z s.rnd)).finishStandard)

section
variable {i : Instr} {s t : State}

/-- Every command, from any state, reaches one of its ends. -/
theorem exec_commandEnd (i : Instr) (s : State) : ∃ t, exec i s = .next t ∧ CommandEnd s i t := by
  rcases exec_cases i s with ⟨hi, hl, h⟩ | ⟨rfl, hn, h⟩ | ⟨rfl, hl, h⟩ | ⟨rfl, hl, h⟩ | ⟨rfl, h⟩ |
    ⟨rfl, h⟩ | ⟨rfl, hl, h⟩ | ⟨rfl, hl, h⟩ | ⟨rfl, h⟩ | ⟨rfl, h⟩ | ⟨rfl, hl, h⟩ | ⟨z, rfl, hz, h⟩
  · exact ⟨_, h, .lengthFault hi hl⟩
  · exact ⟨_, h, .terminatorFault hn⟩
  · exact ⟨_, h, .crc16Bit hl⟩
  · exact ⟨_, h, .crc16Tbl hl⟩
  · exact ⟨_, h, .t16Build⟩
  · exact ⟨_, h, .rev8⟩
  · exact ⟨_, h, .crc32Ref hl⟩
  · exact ⟨_, h, .crc32Tbl hl⟩
  · exact ⟨_, h, .t32Build⟩
  · exact ⟨_, h, .rev32⟩
  · exact ⟨_, h, .crc32Std hl⟩
  · exact ⟨_, h, .crc32Nt hz⟩

theorem commandEnd_of_exec (h : exec i s = .next t) : CommandEnd s i t := by
  obtain ⟨u, hu, hend⟩ := exec_commandEnd i s
  cases hu.symm.trans h
  exact hend

/-! ### What every end of a command has in common -/

/-- T16 and its flag after the command `i`: kept, or built by one of their own commands. -/
def KeptOrBuilt16 (i : Instr) (s t : State) : Prop :=
  SameT16 s t ∨ (i = .t16Build ∨ i = .crc16Tbl) ∧ t.t16 = table16 ∧ t.t16v = true

/-- The same of T32. -/
def KeptOrBuilt32 (i : Instr) (s t : State) : Prop :=
  SameT32 s t ∨ (i = .t32Build ∨ i = .crc32Tbl) ∧ t.t32 = table32 ∧ t.t32v = true

theorem CommandEnd.busy (h : CommandEnd s i t) : t.busy = false := by
  cases h <;> simp

theorem CommandEnd.sampled (h : CommandEnd s i t) : Sampled s t := by
  cases h <;> simp [Sampled]

theorem CommandEnd.sameSurroundings (h : CommandEnd s i t) : SameSurroundings s t := by
  cases h <;> simp [SameSurroundings]

theorem CommandEnd.keptOrBuilt16 (h : CommandEnd s i t) : KeptOrBuilt16 i s t := by
  cases h
  case crc16Tbl => cases hf : s.t16v <;> simp [KeptOrBuilt16, SameT16, hf]
  all_goals simp [KeptOrBuilt16, SameT16]

theorem CommandEnd.keptOrBuilt32 (h : CommandEnd s i t) : KeptOrBuilt32 i s t := by
  cases h
  case crc32Tbl => cases hf : s.t32v <;> simp [KeptOrBuilt32, SameT32, hf]
  all_goals simp [KeptOrBuilt32, SameT32]

/-- A table kept or built is valid where its flag is set. -/
theorem TablesValid.of_keptOrBuilt (hv : TablesValid s) (h16 : KeptOrBuilt16 i s t)
    (h32 : KeptOrBuilt32 i s t) : TablesValid t := by
  constructor
  · intro hf k hk
    rcases h16 with ⟨ht, hfl⟩ | ⟨-, ht, -⟩
    · rw [ht]; exact hv.1 (hfl ▸ hf) k hk
    · rw [ht]; exact table16_getElem k hk
  · intro hf k hk
    rcases h32 with ⟨ht, hfl⟩ | ⟨-, ht, -⟩
    · rw [ht]; exact hv.2 (hfl ▸ hf) k hk
    · rw [ht]; exact table32_getElem k hk

/-- A command run as one transaction keeps the invariant. -/
theorem exec_inv (hinv : Inv s) (h : exec i s = .next t) : Inv t := by
  obtain ⟨hv, hm, -⟩ := hinv
  have hend := commandEnd_of_exec h
  obtain ⟨hmsg, hcap, -⟩ := hend.sameSurroundings
  exact inv_of_idle (hv.of_keptOrBuilt hend.keptOrBuilt16 hend.keptOrBuilt32) (hm.of_eq hmsg hcap)
    hend.busy

theorem execReserved_inv (hinv : Inv s) : Inv (execReserved s) :=
  inv_of_idle (hinv.1.of_eq rfl rfl rfl rfl) hinv.2.1 rfl

/-! ### The invariant of every state -/

/-- What one step can do. -/
theorem step_cases (h : step s = .next t) :
    (s.busy = true ∧ tick s = .next t) ∨ (∃ i, s.busy = false ∧ decode s.cmd = .ok i ∧ exec i s = .next t) ∨
      (s.busy = false ∧ t = execReserved s) ∨ t = s := by
  unfold step at h
  split at h
  next hb => exact .inl ⟨hb, h⟩
  next hb =>
    rw [Bool.not_eq_true] at hb
    split at h
    · split at h
      next i hd => exact .inr (.inl ⟨i, hb, hd, h⟩)
      next => cases h; exact .inr (.inr (.inl ⟨hb, rfl⟩))
    · cases h; exact .inr (.inr (.inr rfl))

/-- What one step of the finest grain can do. -/
theorem seqStep_cases (h : seqStep s = .next t) :
    (s.busy = true ∧ tick s = .next t) ∨ (s.busy = false ∧ t = s.accept) ∨ t = s := by
  unfold seqStep at h
  split at h
  next hb => exact .inl ⟨hb, h⟩
  next hb =>
    split at h <;> cases h
    · exact .inr (.inl ⟨by simpa using hb, rfl⟩)
    · exact .inr (.inr rfl)

/-- Settles O54: a BUSY block by its sequencing step, an idle one by the ends of its command. -/
theorem stepKeepsInvariant : Obligations.StepKeepsInvariant := by
  intro s t hinv h
  rcases step_cases h with ⟨hb, h⟩ | ⟨i, -, -, h⟩ | ⟨-, rfl⟩ | rfl
  · exact tick_inv hinv hb h
  · exact exec_inv hinv h
  · exact execReserved_inv hinv
  · exact hinv

/-- Settles O55: acceptance goes to the start of the sequence, and every sequencing step stays on it. -/
theorem sequencingKeepsInvariant : Obligations.SequencingKeepsInvariant := by
  intro s t hinv h
  rcases seqStep_cases h with ⟨hb, h⟩ | ⟨-, rfl⟩ | rfl
  · exact tick_inv hinv hb h
  · exact accept_inv hinv
  · exact hinv

/-- A reset leaves no flag set and nothing running. -/
theorem applyReset_inv (hm : MessageWf s) : Inv s.applyReset :=
  inv_of_idle ⟨nofun, nofun⟩ hm rfl

/-- Settles O56: the ports are no part of the invariant, MSG is written while BUSY = 0 only, and reset
leaves no flag set and nothing running. -/
theorem callerMovesKeepInvariant : Obligations.CallerMovesKeepInvariant := by
  intro m s t hinv h
  obtain ⟨hv, hm, hrun⟩ := hinv
  cases m with
  | issue c a n => cases h; exact ⟨hv, hm, hrun⟩
  | withdraw => cases h; exact ⟨hv, hm, hrun⟩
  | writeMsg a b =>
    obtain ⟨hb, ha, rfl⟩ := callerWrite_next h
    exact inv_of_idle hv (State.putMsg_messageWf b ha hm) hb
  | reset => cases h; exact applyReset_inv hm

theorem reset_inv : Inv State.reset := applyReset_inv (s := State.reset) ⟨Memory.reset_wf, nofun⟩

/-- Settles O58, by induction on the way the state is reached. -/
theorem reachableStatesMeetInvariant : Obligations.ReachableStatesMeetInvariant := by
  intro s h
  induction h with
  | reset => exact reset_inv
  | step _ h ih => exact stepKeepsInvariant _ _ ih h
  | seqStep _ h ih => exact sequencingKeepsInvariant _ _ ih h
  | move _ h ih => exact callerMovesKeepInvariant _ _ _ ih h

end
end Sys2Proof.Machine
end

section
namespace Sys2Proof.Machine

/-! ### What the caller reads -/

/-- STAT from its five fields, for each of their 64 values (10_state.md R34). -/
theorem stat_bits : ∀ (b u v r : Bool) (e : BitVec 2),
    let x : Byte := 0#2 ++ (e ++ (BitVec.ofBool r ++ (BitVec.ofBool v ++
      (BitVec.ofBool u ++ BitVec.ofBool b))))
    x.getLsbD 0 = b ∧ x.getLsbD 1 = u ∧ x.getLsbD 2 = v ∧ x.getLsbD 3 = r ∧
      (x >>> 4).setWidth 2 = e ∧ x.getLsbD 6 = false ∧ x.getLsbD 7 = false := by
  decide

/-- Settles O47: STAT is the concatenation of its fields. -/
theorem statBitsAreTheirFields : Obligations.StatBitsAreTheirFields :=
  fun s => stat_bits s.busy s.t16v s.t32v s.rv s.err

section
variable {i : Instr} {s t : State}

theorem readRes_of_rv (h : s.rv = true) : readRes s = .ok s.res := if_pos h

theorem readRes_of_not_rv (h : s.rv = false) : readRes s = .error .resultNotValid := by
  simp [readRes, h]

/-- Settles O48: the read tests RV and nothing else. -/
theorem resultIsReadableExactlyWhileValid : Obligations.ResultIsReadableExactlyWhileValid :=
  fun _ => ⟨readRes_of_rv, readRes_of_not_rv⟩

/-- Settles O7: the step of an idle block goes by the presented word. -/
theorem stepRunsThePresentedCommand : Obligations.StepRunsThePresentedCommand := by
  intro s i hb hp hd
  simp [step, hb, hp, hd]

/-! ### The valid flags -/

theorem tick_cases (h : tick s = .next t) :
    t = s.raiseFault .illegalCommand ∨ ∃ i, decode s.runCmd = .ok i ∧ tickOf i s = .next t := by
  cases hd : decode s.runCmd with
  | error e =>
    rw [tick_of_error hd] at h
    cases h
    exact .inl rfl
  | ok i => exact .inr ⟨i, rfl, tick_of_ok hd ▸ h⟩

/-- A flag that is kept, or raised under the condition `P`, is never cleared and changes only under `P`. -/
theorem flag_of_kept_or_raised {old new : Bool} {P : Prop} (h : new = old ∨ new = true ∧ P) :
    (old = true → new = true) ∧ (new ≠ old → P) := by
  rcases h with rfl | ⟨rfl, hp⟩
  · exact ⟨id, fun h => absurd rfl h⟩
  · exact ⟨fun _ => rfl, fun _ => hp⟩

/-- Then a change is a rise. -/
theorem kept_or_raised_from_false {old new : Bool} {P : Prop} (h : new = old ∨ new = true ∧ P) :
    new = old ∨ old = false ∧ P := by
  rcases h with h | ⟨rfl, hp⟩
  · exact .inl h
  · cases old
    · exact .inr ⟨rfl, hp⟩
    · exact .inl rfl

/-- What an end of a command says of T16V. -/
theorem KeptOrBuilt16.flag (h : KeptOrBuilt16 i s t) :
    t.t16v = s.t16v ∨ t.t16v = true ∧ (i = .t16Build ∨ i = .crc16Tbl) :=
  h.imp (fun hs => hs.2) fun ⟨hi, _, hf⟩ => ⟨hf, hi⟩

theorem KeptOrBuilt32.flag (h : KeptOrBuilt32 i s t) :
    t.t32v = s.t32v ∨ t.t32v = true ∧ (i = .t32Build ∨ i = .crc32Tbl) :=
  h.imp (fun hs => hs.2) fun ⟨hi, _, hf⟩ => ⟨hf, hi⟩

/-- A sequencing step that leaves BUSY = 1 raises a flag in a lazy build only. -/
theorem StepExposes.flags_of_busy (h : StepExposes i s t) (hb : t.busy = true) :
    (t.t16v = s.t16v ∨ s.t16v = false ∧ i = .crc16Tbl) ∧
      (t.t32v = s.t32v ∨ s.t32v = false ∧ i = .crc32Tbl) := by
  obtain ⟨-, h16, h32⟩ := h
  simp only [hb, Bool.true_eq_false, and_false, or_false] at h16 h32
  exact ⟨kept_or_raised_from_false h16, kept_or_raised_from_false h32⟩

/-- Settles O46: a transaction keeps or builds, a sequencing step changes a flag only by raising it, and
of the caller's moves only reset writes one. -/
theorem validFlagsRiseInBuildsAndFallInReset : Obligations.ValidFlagsRiseInBuildsAndFallInReset := by
  refine ⟨fun i s t h => ?exec, fun s t h => ?seq, fun m s t hm h => ?move, fun s => ⟨rfl, rfl⟩⟩
  case exec =>
    have hend := commandEnd_of_exec h
    obtain ⟨hup16, hown16⟩ := flag_of_kept_or_raised hend.keptOrBuilt16.flag
    obtain ⟨hup32, hown32⟩ := flag_of_kept_or_raised hend.keptOrBuilt32.flag
    exact ⟨hup16, hup32, hown16, hown32⟩
  case seq =>
    rcases seqStep_cases h with ⟨hb, h⟩ | ⟨-, rfl⟩ | rfl
    · rcases tick_cases h with rfl | ⟨i, hd, h⟩
      · simp
      · obtain ⟨-, h16, h32⟩ := tickOf_stepExposes h
        obtain ⟨hup16, hown16⟩ := flag_of_kept_or_raised h16
        obtain ⟨hup32, hown32⟩ := flag_of_kept_or_raised h32
        simp only [hd, Except.ok.injEq]
        refine ⟨hup16, hup32, fun hne => ⟨hb, ?_⟩, fun hne => ⟨hb, ?_⟩⟩
        · exact (hown16 hne).symm.imp_left And.left
        · exact (hown32 hne).symm.imp_left And.left
    · simp
    · simp
  case move =>
    cases m with
    | issue c a n => cases h; simp
    | withdraw => cases h; simp
    | writeMsg a b => obtain ⟨-, -, rfl⟩ := callerWrite_next h; simp
    | reset => exact absurd rfl hm

/-- Settles O49: RV and ERR are 0 by the invariant, and a step that leaves BUSY = 1 exposes no more than
the rise of its table command's flag. -/
theorem nothingIsExposedWhileBusy : Obligations.NothingIsExposedWhileBusy := by
  intro s t hinv hb h hbt
  rcases seqStep_cases h with ⟨-, h⟩ | ⟨hnb, -⟩ | rfl
  · rcases tick_cases h with rfl | ⟨i, hd, h⟩
    · cases hbt
    · obtain ⟨hrv, herr, -⟩ := (running_iff_of_ok hd).1 (hinv.2.2 hb)
      have hexp := tickOf_stepExposes h
      obtain ⟨hrv', herr', hres⟩ := hexp.1 hbt
      have hrv'' := hrv'.trans hrv
      simp only [hd, Except.ok.injEq]
      exact ⟨hres, hrv'', herr'.trans herr, ⟨_, readRes_of_not_rv hrv''⟩, hexp.flags_of_busy hbt⟩
  · cases hnb.symm.trans hb
  · obtain ⟨hrv, herr, -⟩ := hinv.2.2 hb
    exact ⟨rfl, hrv, herr, ⟨_, readRes_of_not_rv hrv⟩, .inl rfl, .inl rfl⟩

/-! ### The ends of a command -/

theorem faulted_accept_raiseFault (s : State) (f : CmdFault) : Faulted f s (s.accept.raiseFault f) := by
  simp [Faulted, SameT16, SameT32, SameSurroundings]

/-- Settles O11, end by end: the builds are the ones that complete without a value. -/
theorem everyCommandEndsInOneOfThreeWays : Obligations.EveryCommandEndsInOneOfThreeWays := by
  refine ⟨fun s hb hp => ⟨s.accept, by simp [seqStep, hb, hp], rfl, rfl, rfl, rfl, rfl, rfl, rfl⟩,
    fun s e _ => ⟨faulted_accept_raiseFault s _, rfl, rfl, rfl, rfl⟩, fun i s => ?_⟩
  obtain ⟨t, h, hend⟩ := exec_commandEnd i s
  refine ⟨t, h, hend.sampled, ?_⟩
  cases hend
  case lengthFault => exact .inr (.inr ⟨_, faulted_accept_raiseFault s _⟩)
  case terminatorFault => exact .inr (.inr ⟨_, faulted_accept_raiseFault s _⟩)
  case t16Build => exact .inr (.inl (by simp [CompletedSilently]))
  case t32Build => exact .inr (.inl (by simp [CompletedSilently]))
  all_goals exact .inl (by simp [CompletedWith])

/-! ### Where the counters stand -/

/-- Rounds of CRC32.NT shift the byte word up bit by bit (42_crc32_bit.md R123). -/
theorem roundnt_iterate_snd (n : Nat) (p : Word × Word) : (roundnt^[n] p).2 = p.2 <<< n := by
  induction n with
  | zero => simp
  | succ n ih => rw [Function.iterate_succ_apply', roundnt, ih, ← BitVec.shiftLeft_add]

/-- Eight of them empty it. -/
theorem byteNt_snd (p : Word × Word) (b : Byte) : (byteNt p b).2 = 0#32 := by
  rw [byteNt, roundnt_iterate_snd, place, ← BitVec.shiftLeft_add]
  exact BitVec.shiftLeft_eq_zero le_rfl

/-- B32 after `z` bytes: untouched by none, emptied by the last of any others. -/
theorem crc32NtReg_msgBytes_snd (b : Word) (s : State) (z : Nat) :
    (crc32NtReg b (s.msgBytes z)).2 = if z = 0 then b else 0#32 := by
  cases z with
  | zero => simp [crc32NtReg]
  | succ z => rw [crc32NtReg, State.foldl_msgBytes_succ, byteNt_snd]; simp

/-- A message has one first 0x00. -/
theorem FirstNul.unique {y z : Nat} (hy : FirstNul s y) (hz : FirstNul s z) : y = z := by
  obtain ⟨-, hy0, hyn⟩ := hy
  obtain ⟨-, hz0, hzn⟩ := hz
  rcases Nat.lt_trichotomy y z with h | h | h
  · exact absurd hy0 (hzn y h)
  · exact h
  · exact absurd hz0 (hyn z h)

/-- Settles O26, end by end; the two faulting ends have ERR not 0. -/
theorem countersWhereACommandEnds : Obligations.CountersWhereACommandEnds := by
  intro i s t h herr
  cases commandEnd_of_exec h
  case lengthFault => cases herr
  case terminatorFault => cases herr
  case crc32Nt y hy =>
    refine ⟨nofun, by simp, fun z _ hz => ?_, by simp⟩
    cases hy.unique hz
    refine ⟨rfl, fun h0 => ?_, fun h0 => ?_⟩
    · simp [h0, rndAfter, crc32NtReg]
    · simp [h0, rndAfter, crc32NtReg_msgBytes_snd]
  case crc16Bit => exact ⟨fun _ => rfl, fun _ => rfl, nofun, by simp⟩
  case crc32Ref => exact ⟨fun _ => rfl, fun _ => rfl, nofun, by simp⟩
  case crc32Std => exact ⟨fun _ => rfl, fun _ => rfl, nofun, by simp⟩
  all_goals simp +contextual [Instr.lengthBounded]

end
end Sys2Proof.Machine
end

section
namespace Sys2Proof.Machine

section
variable {i : Instr} {s t : State}

/-! ### Other tables, same command -/

/-- The block with other tables and other valid flags. -/
def State.withTables (s : State) (a : Table16) (b : Table32) (p q : Bool) : State :=
  { s with t16 := a, t32 := b, t16v := p, t32v := q }

/-- A command that is not of the table family does the same whatever the tables and flags hold. -/
theorem exec_withTables (a : Table16) (b : Table32) (p q : Bool) (h1 : i ≠ .t16Build)
    (h2 : i ≠ .crc16Tbl) (h3 : i ≠ .t32Build) (h4 : i ≠ .crc32Tbl) (h : exec i s = .next t) :
    exec i (s.withTables a b p q) = .next (t.withTables a b p q) := by
  cases commandEnd_of_exec h
  case lengthFault hl hi => exact exec_of_lt hi hl
  case terminatorFault hn => exact exec_crc32Nt_of_noNul (s := s.withTables a b p q) hn
  case crc16Bit hl => exact exec_crc16Bit_of_le hl
  case crc16Tbl => exact absurd rfl h2
  case t16Build => exact absurd rfl h1
  case rev8 => rfl
  case crc32Ref hl => exact exec_crc32Ref_of_le hl
  case crc32Tbl => exact absurd rfl h4
  case t32Build => exact absurd rfl h3
  case rev32 => rfl
  case crc32Std hl => exact exec_crc32Std_of_le hl
  case crc32Nt z hz => exact exec_crc32Nt_of_firstNul (s := s.withTables a b p q) hz

/-- Settles O41: a command keeps or builds each table, and only the four table commands look at one. -/
theorem familiesAreIndependent : Obligations.FamiliesAreIndependent := by
  intro s
  refine ⟨fun i t hi h => ?_, fun i t hi h => ?_, fun i t a b p q h1 h2 h3 h4 h => ?_⟩
  · rcases (commandEnd_of_exec h).keptOrBuilt32 with hk | ⟨hb, -⟩
    · exact hk
    · rcases hi with rfl | rfl <;> simp at hb
  · rcases (commandEnd_of_exec h).keptOrBuilt16 with hk | ⟨hb, -⟩
    · exact hk
    · rcases hi with rfl | rfl <;> simp at hb
  · have hend := commandEnd_of_exec h
    exact ⟨hend.keptOrBuilt16.resolve_right (by simp [h1, h2]),
      hend.keptOrBuilt32.resolve_right (by simp [h3, h4]), exec_withTables a b p q h1 h2 h3 h4 h⟩

/-! ### Other ports, same step -/

/-- The block with other values at the port, presented or not. -/
def State.withPorts (s : State) (p : Bool) (c : Byte) (a n : Word) : State :=
  { s with presented := p, cmd := c, arg := a, len := n }

theorem State.withdraw_eq_withPorts : s.withdraw = s.withPorts false s.cmd s.arg s.len := rfl

/-- What an outcome becomes when the next state is changed by `g`. -/
def mapNext (g : State → State) (o : Host.Outcome State Fault Refusal) :
    Host.Outcome State Fault Refusal :=
  match o with
  | .next s => .next (g s)
  | .fault f => .fault f
  | .refused r => .refused r

end

section
variable {s : State} {p : Bool} {c : Byte} {a n : Word}

@[simp] theorem State.withPorts_phase : (s.withPorts p c a n).phase = s.phase := rfl

theorem lengthChecked_withPorts {body : State → State}
    (hb : (body (s.withPorts p c a n)) = (body s).withPorts p c a n) :
    lengthChecked (s.withPorts p c a n) body = (lengthChecked s body).withPorts p c a n := by
  unfold lengthChecked
  rw [hb, apply_ite (State.withPorts · p c a n)]
  rfl

theorem withByte_withPorts {use use' : Byte → State} (hu : ∀ b, use' b = (use b).withPorts p c a n) :
    (s.withPorts p c a n).withByte use' = mapNext (State.withPorts · p c a n) (s.withByte use) := by
  rw [funext hu]
  by_cases hlt : s.idx.toNat < s.cap.toNat
  · rw [State.withByte_of_lt hlt]
    exact State.withByte_of_lt (s := s.withPorts p c a n) hlt _
  · simp [State.withByte, memRead, hlt, mapNext, State.withPorts]

theorem nextByte_withPorts {use use' : Byte → State} {fin fin' : State}
    (hu : ∀ b, use' b = (use b).withPorts p c a n) (hf : fin' = fin.withPorts p c a n) :
    (s.withPorts p c a n).nextByte use' fin' =
      mapNext (State.withPorts · p c a n) (s.nextByte use fin) := by
  unfold State.nextByte
  rw [withByte_withPorts hu, hf, apply_ite (mapNext _)]
  rfl

theorem fillStep16_withPorts {done : State → State}
    (hd : ∀ u : State, done (u.withPorts p c a n) = (done u).withPorts p c a n) :
    (s.withPorts p c a n).fillStep16 done = (s.fillStep16 done).withPorts p c a n := by
  simp only [State.fillStep16, apply_ite (State.withPorts · p c a n), ← hd]
  rfl

theorem fillStep32_withPorts {done : State → State}
    (hd : ∀ u : State, done (u.withPorts p c a n) = (done u).withPorts p c a n) :
    (s.withPorts p c a n).fillStep32 done = (s.fillStep32 done).withPorts p c a n := by
  simp only [State.fillStep32, apply_ite (State.withPorts · p c a n), ← hd]
  rfl

theorem roundStep16_withPorts :
    (s.withPorts p c a n).roundStep16 = s.roundStep16.withPorts p c a n := by
  unfold State.roundStep16
  rw [apply_ite (State.withPorts · p c a n)]
  rfl

theorem roundStep32_withPorts {f : Word → Word} :
    (s.withPorts p c a n).roundStep32 f = (s.roundStep32 f).withPorts p c a n := by
  unfold State.roundStep32
  rw [apply_ite (State.withPorts · p c a n)]
  rfl

theorem roundStepNt_withPorts :
    (s.withPorts p c a n).roundStepNt = s.roundStepNt.withPorts p c a n := by
  simp only [State.roundStepNt, apply_ite (State.withPorts · p c a n)]
  rfl

theorem nextByteNt_withPorts :
    (s.withPorts p c a n).nextByteNt = mapNext (State.withPorts · p c a n) s.nextByteNt := by
  unfold State.nextByteNt
  rw [apply_ite (mapNext _)]
  congr 1
  refine withByte_withPorts fun b => ?_
  rw [apply_ite (State.withPorts · p c a n)]
  rfl

/-- A step of the running command goes the same way whatever stands at the port. -/
theorem tickOf_withPorts (i : Instr) :
    tickOf i (s.withPorts p c a n) = mapNext (State.withPorts · p c a n) (tickOf i s) := by
  cases i with
  | crc16Bit =>
    simp only [tickOf, tickCrc16Bit, State.withPorts_phase]
    cases s.phase with
    | start => exact congrArg _ (lengthChecked_withPorts rfl)
    | bytes => exact nextByte_withPorts (fun _ => rfl) rfl
    | rounds => exact congrArg _ roundStep16_withPorts
    | fill => rfl
  | crc16Tbl =>
    simp only [tickOf, tickCrc16Tbl, State.withPorts_phase]
    cases s.phase with
    | start =>
      refine congrArg _ (lengthChecked_withPorts ?_)
      rw [apply_ite (State.withPorts · p c a n)]
      rfl
    | fill => exact congrArg _ (fillStep16_withPorts fun _ => rfl)
    | bytes => exact nextByte_withPorts (fun _ => rfl) rfl
    | rounds => rfl
  | t16Build =>
    simp only [tickOf, tickT16Build, State.withPorts_phase]
    cases s.phase with
    | fill => exact congrArg _ (fillStep16_withPorts fun _ => rfl)
    | _ => rfl
  | rev8 =>
    simp only [tickOf, tickRev8, State.withPorts_phase]
    cases s.phase <;> rfl
  | crc32Ref =>
    simp only [tickOf, tickCrc32Ref, State.withPorts_phase]
    cases s.phase with
    | start => exact congrArg _ (lengthChecked_withPorts rfl)
    | bytes => exact nextByte_withPorts (fun _ => rfl) rfl
    | rounds => exact congrArg _ roundStep32_withPorts
    | fill => rfl
  | crc32Tbl =>
    simp only [tickOf, tickCrc32Tbl, State.withPorts_phase]
    cases s.phase with
    | start =>
      refine congrArg _ (lengthChecked_withPorts ?_)
      rw [apply_ite (State.withPorts · p c a n)]
      rfl
    | fill => exact congrArg _ (fillStep32_withPorts fun _ => rfl)
    | bytes => exact nextByte_withPorts (fun _ => rfl) rfl
    | rounds => rfl
  | t32Build =>
    simp only [tickOf, tickT32Build, State.withPorts_phase]
    cases s.phase with
    | fill => exact congrArg _ (fillStep32_withPorts fun _ => rfl)
    | _ => rfl
  | rev32 =>
    simp only [tickOf, tickRev32, State.withPorts_phase]
    cases s.phase <;> rfl
  | crc32Std =>
    simp only [tickOf, tickCrc32Std, State.withPorts_phase]
    cases s.phase with
    | start => exact congrArg _ (lengthChecked_withPorts rfl)
    | bytes => exact nextByte_withPorts (fun _ => rfl) rfl
    | rounds => exact congrArg _ roundStep32_withPorts
    | fill => rfl
  | crc32Nt =>
    simp only [tickOf, tickCrc32Nt, State.withPorts_phase]
    cases s.phase with
    | bytes => exact nextByteNt_withPorts
    | rounds => exact congrArg _ roundStepNt_withPorts
    | _ => rfl

theorem tick_withPorts {t : State} (h : tick s = .next t) :
    tick (s.withPorts p c a n) = .next (t.withPorts p c a n) := by
  cases hd : decode s.runCmd with
  | error e =>
    rw [tick_of_error hd] at h
    cases h
    exact tick_of_error (s := s.withPorts p c a n) hd
  | ok i =>
    rw [tick_of_ok hd] at h
    rw [tick_of_ok (s := s.withPorts p c a n) hd, tickOf_withPorts, h]
    rfl

theorem step_of_busy (hb : s.busy = true) : step s = tick s := if_pos hb

/-- Settles O10: a sequencing step neither writes the port nor looks at it. -/
theorem heldCommandChangesNothing : Obligations.HeldCommandChangesNothing := by
  intro s t c a n hb h
  rw [step_of_busy hb] at h
  obtain ⟨hpres, hcmd, harg, hlen, -⟩ := tick_sameOutside h
  refine ⟨⟨hpres, hcmd, harg, hlen⟩, ?_, ?_⟩
  · rw [step_of_busy (s := s.issue c a n) hb]
    exact tick_withPorts h
  · rw [step_of_busy (s := s.withdraw) hb, State.withdraw_eq_withPorts, tick_withPorts h,
      State.withdraw_eq_withPorts, hcmd, harg, hlen]

end
end Sys2Proof.Machine
end

section
namespace Sys2Proof.Machine

/-! ### Two states a command cannot tell apart -/

section
variable {i : Instr} {s t s' t' : State}

/-- What two ends of a command have to share to look the same now and to the next command. -/
def SameEnd (s t : State) : Prop :=
  s.t16v = t.t16v ∧ s.t32v = t.t32v ∧ s.rv = t.rv ∧ s.err = t.err ∧ (s.rv = true → s.res = t.res) ∧
    (s.t16v = true → s.t16 = t.t16) ∧ (s.t32v = true → s.t32 = t.t32)

theorem SameEnd.sameView (h : SameEnd s t) (hs : s.busy = false) (ht : t.busy = false) :
    SameView s t := by
  obtain ⟨h16, h32, hrv, herr, hres, -, -⟩ := h
  refine ⟨by simp [readStat, State.stat, h16, h32, hrv, herr, hs, ht], ?_⟩
  cases hv : s.rv with
  | false => rw [readRes_of_not_rv hv, readRes_of_not_rv (hrv ▸ hv)]
  | true => rw [readRes_of_rv hv, readRes_of_rv (hrv ▸ hv), hres hv]

/-- The ports, CAP and MSG are what they were, so the ends agree on them as the beginnings did. -/
theorem SameEnd.sameInputs (h : SameEnd s' t') (hin : SameInputs s t) (hs : SameSurroundings s s')
    (ht : SameSurroundings t t') : SameInputs s' t' := by
  obtain ⟨h16v, h32v, -, -, -, h16, h32⟩ := h
  obtain ⟨hcmd, harg, hlen, hcap, hmsg, -⟩ := hin
  obtain ⟨sm, sc, s1, s2, s3⟩ := hs
  obtain ⟨tm, tc, t1, t2, t3⟩ := ht
  refine ⟨by rw [s1, t1, hcmd], by rw [s2, t2, harg], by rw [s3, t3, hlen], by rw [sc, tc, hcap],
    fun a ha => ?_, h16v, h32v, h16, h32⟩
  rw [State.msgByte, State.msgByte, sm, tm]
  exact hmsg a (sc ▸ ha)

/-- The register of CRC32.NT does not depend on the B32 it finds (42_crc32_bit.md R124). -/
theorem crc32NtReg_fst (b c : Word) (s : State) (z : Nat) :
    (crc32NtReg b (s.msgBytes z)).1 = (crc32NtReg c (s.msgBytes z)).1 := by
  induction z with
  | zero => rfl
  | succ z ih =>
    rw [crc32NtReg, crc32NtReg, State.foldl_msgBytes_succ, State.foldl_msgBytes_succ]
    rw [crc32NtReg, crc32NtReg] at ih
    rw [byteNt, byteNt, ih]

/-- Ends that keep both tables agree on them as the beginnings did. -/
theorem SameEnd.of_kept (hin : SameInputs s t) (hs : SameT16 s s' ∧ SameT32 s s')
    (ht : SameT16 t t' ∧ SameT32 t t') (hrv : s'.rv = t'.rv) (herr : s'.err = t'.err)
    (hres : s'.rv = true → s'.res = t'.res) : SameEnd s' t' := by
  obtain ⟨-, -, -, -, -, h16v, h32v, h16, h32⟩ := hin
  obtain ⟨⟨s16, s16v⟩, s32, s32v⟩ := hs
  obtain ⟨⟨t16, t16v⟩, t32, t32v⟩ := ht
  rw [SameEnd, s16, s16v, s32, s32v, t16, t16v, t32, t32v]
  exact ⟨h16v, h32v, hrv, herr, hres, h16, h32⟩

/-- After the lazy build of CRC16.TBL both tables hold the same entries. -/
theorem lazyBuild16_t16_congr (hv : s.t16v = t.t16v) (h : s.t16v = true → s.t16 = t.t16) :
    s.lazyBuild16.t16 = t.lazyBuild16.t16 := by
  cases hf : s.t16v with
  | false => simp [hf, ← hv]
  | true => simp [hf, ← hv, h hf]

theorem lazyBuild32_t32_congr (hv : s.t32v = t.t32v) (h : s.t32v = true → s.t32 = t.t32) :
    s.lazyBuild32.t32 = t.lazyBuild32.t32 := by
  cases hf : s.t32v with
  | false => simp [hf, ← hv]
  | true => simp [hf, ← hv, h hf]

/-- In a state with the same inputs the command reaches the same end. -/
theorem exec_sameEnd (hin : SameInputs s t) (h : CommandEnd s i s') :
    ∃ t', exec i t = .next t' ∧ SameEnd s' t' := by
  obtain ⟨-, harg, hlen, hcap, hmsg, h16v, h32v, h16, h32⟩ := id hin
  have hbytes (n : Nat) (hn : n ≤ s.cap.toNat) : s.msgBytes n = t.msgBytes n :=
    State.msgBytes_congr fun a ha => hmsg a (by omega)
  have hle (hl : s.len.toNat ≤ s.cap.toNat) : t.len.toNat ≤ t.cap.toNat := hcap ▸ hlen ▸ hl
  have hall (hl : s.len.toNat ≤ s.cap.toNat) : s.msgBytes s.len.toNat = t.msgBytes t.len.toNat :=
    hlen ▸ hbytes _ hl
  cases h
  case lengthFault hl hi =>
    refine ⟨_, exec_of_lt hi (hcap ▸ hlen ▸ hl), .of_kept hin ?_ ?_ ?_ ?_ ?_⟩ <;>
      simp [SameT16, SameT32]
  case terminatorFault hn =>
    have hn' : NoNulBelow t t.cap.toNat := fun a ha => hmsg a (hcap ▸ ha) ▸ hn a (hcap ▸ ha)
    refine ⟨_, exec_crc32Nt_of_noNul hn', .of_kept hin ?_ ?_ ?_ ?_ ?_⟩ <;> simp [SameT16, SameT32]
  case crc16Bit hl =>
    refine ⟨_, exec_crc16Bit_of_le (hle hl), .of_kept hin ?_ ?_ ?_ ?_ ?_⟩ <;>
      simp [SameT16, SameT32, hall hl]
  case crc16Tbl hl =>
    have htab := lazyBuild16_t16_congr (s := s.accept) (t := t.accept) h16v h16
    refine ⟨_, exec_crc16Tbl_of_le (hle hl), ?_⟩
    simpa [SameEnd, hall hl, htab, h32v, -State.lazyBuild16_t16] using h32v ▸ h32
  case t16Build => exact ⟨_, rfl, by simpa [SameEnd, h32v] using h32v ▸ h32⟩
  case rev8 =>
    refine ⟨_, rfl, .of_kept hin ?_ ?_ ?_ ?_ ?_⟩ <;> simp [SameT16, SameT32, State.argByte, harg]
  case crc32Ref hl =>
    refine ⟨_, exec_crc32Ref_of_le (hle hl), .of_kept hin ?_ ?_ ?_ ?_ ?_⟩ <;>
      simp [SameT16, SameT32, hall hl]
  case crc32Tbl hl =>
    have htab := lazyBuild32_t32_congr (s := s.accept) (t := t.accept) h32v h32
    refine ⟨_, exec_crc32Tbl_of_le (hle hl), ?_⟩
    simpa [SameEnd, hall hl, htab, h16v, -State.lazyBuild32_t32] using h16v ▸ h16
  case t32Build => exact ⟨_, rfl, by simpa [SameEnd, h16v] using h16v ▸ h16⟩
  case rev32 => refine ⟨_, rfl, .of_kept hin ?_ ?_ ?_ ?_ ?_⟩ <;> simp [SameT16, SameT32, harg]
  case crc32Std hl =>
    refine ⟨_, exec_crc32Std_of_le (hle hl), .of_kept hin ?_ ?_ ?_ ?_ ?_⟩ <;>
      simp [SameT16, SameT32, hall hl]
  case crc32Nt z hz =>
    obtain ⟨hlt, h0, hn⟩ := hz
    have hz' : FirstNul t z :=
      ⟨hcap ▸ hlt, hmsg z hlt ▸ h0, fun a ha => hmsg a (ha.trans hlt) ▸ hn a ha⟩
    refine ⟨_, exec_crc32Nt_of_firstNul hz', .of_kept hin ?_ ?_ ?_ ?_ ?_⟩ <;>
      simp [SameT16, SameT32, hbytes z hlt.le, crc32NtReg_fst s.b32 t.b32]

/-- Settles O37: the ends agree on all a caller or a later command can see, and each leaves the ports, CAP
and MSG alone. -/
theorem unspecifiedStateIsNeverObserved : Obligations.UnspecifiedStateIsNeverObserved := by
  intro i s t hin
  obtain ⟨s', hs, hends⟩ := exec_commandEnd i s
  obtain ⟨t', ht, hsame⟩ := exec_sameEnd hin hends
  have hendt := commandEnd_of_exec ht
  exact ⟨s', t', hs, ht, hsame.sameView hends.busy hendt.busy,
    hsame.sameInputs hin hends.sameSurroundings hendt.sameSurroundings⟩

end
end Sys2Proof.Machine
end

section
namespace Sys2Proof.Machine

/-! ### The message memory as its reads -/

/-- A canonical memory lists at an index exactly the byte that reads there (20_memory.md R50). -/
theorem Memory.mem_iff_get? {m : List Host.Cell} (h : Memory.wf m) (c : Host.Cell) :
    c ∈ m ↔ Memory.get? m c.1 = some c.2 := by
  induction m with
  | nil => simp [Memory.get?]
  | cons d rest ih =>
    obtain ⟨hd, hr⟩ := List.pairwise_cons.1 h
    rw [List.mem_cons, Memory.get?]
    split
    next heq =>
      have hc : c ∉ rest := fun hc => (hd c hc).ne heq
      simp [hc, Prod.ext_iff, heq, eq_comm]
    next hne =>
      have hc : c ≠ d := fun hc => hne (hc ▸ rfl)
      simp [hc, ih hr]

/-- Two canonical memories that read the same list the same cells, so they are equal. -/
theorem Memory.eq_of_get?_eq {m m' : List Host.Cell} (h : Memory.wf m) (h' : Memory.wf m')
    (hget : ∀ a, Memory.get? m' a = Memory.get? m a) : m' = m := by
  have : Std.Asymm fun c d : Host.Cell => c.1 < d.1 := ⟨fun _ _ => Nat.lt_asymm⟩
  exact h'.eq_of_mem_iff h fun c => by rw [Memory.mem_iff_get? h', Memory.mem_iff_get? h, hget]

/-- Settles O52: the laws of one write, and canonical memories are equal when their reads are. -/
theorem messageMemoryReadsWhatWasWritten : Obligations.MessageMemoryReadsWhatWasWritten :=
  fun m a b h => ⟨Memory.set_wf a b h, Memory.get?_set_self m a b,
    fun _ hne => Memory.get?_set_ne m b hne, fun _ => Memory.eq_of_get?_eq h⟩

section
variable {i : Instr} {s t : State}

/-! ### The block and the message -/

theorem tick_keepsMessage (h : tick s = .next t) : t.msg = s.msg ∧ t.cap = s.cap := by
  obtain ⟨-, -, -, -, -, -, -, hmsg, hcap⟩ := tick_sameOutside h
  exact ⟨hmsg, hcap⟩

theorem step_keepsMessage (h : step s = .next t) : t.msg = s.msg ∧ t.cap = s.cap := by
  rcases step_cases h with ⟨-, h⟩ | ⟨i, -, -, h⟩ | ⟨-, rfl⟩ | rfl
  · exact tick_keepsMessage h
  · obtain ⟨hmsg, hcap, -⟩ := (commandEnd_of_exec h).sameSurroundings
    exact ⟨hmsg, hcap⟩
  · exact ⟨rfl, rfl⟩
  · exact ⟨rfl, rfl⟩

theorem seqStep_keepsMessage (h : seqStep s = .next t) : t.msg = s.msg ∧ t.cap = s.cap := by
  rcases seqStep_cases h with ⟨-, h⟩ | ⟨-, rfl⟩ | rfl
  · exact tick_keepsMessage h
  · exact ⟨rfl, rfl⟩
  · exact ⟨rfl, rfl⟩

theorem SameBytes.of_msg_eq (h : t.msg = s.msg) : SameBytes s t := fun a => by
  rw [State.msgByte, State.msgByte, h]

/-- Settles O45: no step of either grain stores to MSG, and the caller's write of an idle block below CAP
puts its byte and nothing else. -/
theorem onlyTheCallerWritesTheMessage : Obligations.OnlyTheCallerWritesTheMessage := by
  refine ⟨fun s t h => ?_, fun s a b hb ha => ?_⟩
  · obtain ⟨hmsg, hcap⟩ := h.elim step_keepsMessage seqStep_keepsMessage
    exact ⟨hmsg, hcap, .of_msg_eq hmsg⟩
  · exact ⟨s.putMsg a b, callerWrite_of_lt b hb ha, State.putMsg_msgByte_self s a b,
      fun _ hne => State.putMsg_msgByte_ne s b hne, rfl, rfl⟩

/-! ### The loops a running command can be in -/

/-- Only the commands that build a table stand in a build (10_state.md R27 (c)). -/
theorem builds_of_position_fill (hph : s.phase = .fill) (hp : Position i s) :
    i = .crc16Tbl ∨ i = .t16Build ∨ i = .crc32Tbl ∨ i = .t32Build := by
  delta Position at hp
  rw [hph] at hp
  cases i with
  | crc16Tbl | t16Build | crc32Tbl | t32Build => decide
  | crc16Bit | rev8 | crc32Ref | rev32 | crc32Std | crc32Nt => exact hp.elim

/-- A command between two bytes is CRC32.NT, or one whose LEN has passed the check (10_state.md R27 (a)). -/
theorem lengthBounded_of_position_bytes (hph : s.phase = .bytes) (hp : Position i s) :
    i = .crc32Nt ∨ Instr.lengthBounded i = true ∧ s.byteCount ≤ s.cap.toNat := by
  delta Position at hp
  rw [hph] at hp
  cases i with
  | crc16Bit | crc16Tbl | crc32Ref | crc32Tbl | crc32Std => exact .inr ⟨rfl, hp.1.1⟩
  | t16Build | rev8 | t32Build | rev32 => exact hp.elim
  | crc32Nt => exact .inl rfl

/-- Only the bit engines stand inside a byte (10_state.md R27 (b)). -/
theorem bitEngine_of_position_rounds (hph : s.phase = .rounds) (hp : Position i s) :
    i = .crc16Bit ∨ i = .crc32Ref ∨ i = .crc32Std ∨ i = .crc32Nt := by
  delta Position at hp
  rw [hph] at hp
  cases i with
  | crc16Bit | crc32Ref | crc32Std | crc32Nt => decide
  | crc16Tbl | t16Build | rev8 | crc32Tbl | t32Build | rev32 => exact hp.elim

/-! ### Every position has a next step -/

/-- A length-bounded command whose LEN is at most CAP never reads a byte that is not there
(20_memory.md R50). -/
theorem State.nextByte_isNext (h : s.byteCount ≤ s.cap.toNat) (use : Byte → State) (fin : State) :
    ∃ t, s.nextByte use fin = .next t := by
  unfold State.nextByte
  split
  next hlt => exact ⟨_, State.withByte_of_lt (hlt.trans_le h) use⟩
  next => exact ⟨_, rfl⟩

/-- CRC32.NT looks at CAP itself before it reads (42_crc32_bit.md R124). -/
theorem State.nextByteNt_isNext (s : State) : ∃ t, s.nextByteNt = .next t := by
  unfold State.nextByteNt
  split
  next => exact ⟨_, rfl⟩
  next hlt => exact ⟨_, State.withByte_of_lt (Nat.not_le.1 hlt) _⟩

/-- Between two bytes a length-bounded command uses the next or finishes. -/
theorem tickOf_of_bytes (hph : s.phase = .bytes) (hi : Instr.lengthBounded i = true) :
    ∃ use fin, tickOf i s = s.nextByte use fin := by
  cases i with
  | crc16Bit => exact ⟨_, _, by rw [tickOf, tickCrc16Bit, hph]⟩
  | crc16Tbl => exact ⟨_, _, by rw [tickOf, tickCrc16Tbl, hph]⟩
  | crc32Ref => exact ⟨_, _, by rw [tickOf, tickCrc32Ref, hph]⟩
  | crc32Tbl => exact ⟨_, _, by rw [tickOf, tickCrc32Tbl, hph]⟩
  | crc32Std => exact ⟨_, _, by rw [tickOf, tickCrc32Std, hph]⟩
  | t16Build | rev8 | t32Build | rev32 | crc32Nt => cases hi

/-- A command in its own sequence takes its next step, loop by loop. -/
theorem tickOf_isNext (hp : Position i s) : ∃ t, tickOf i s = .next t := by
  cases hph : s.phase with
  | start =>
    cases i <;> simp [tickOf, tickCrc16Bit, tickCrc16Tbl, tickT16Build, tickRev8, tickCrc32Ref,
      tickCrc32Tbl, tickT32Build, tickRev32, tickCrc32Std, tickCrc32Nt, hph]
  | fill =>
    rcases builds_of_position_fill hph hp with rfl | rfl | rfl | rfl <;>
      simp [tickOf, tickCrc16Tbl, tickT16Build, tickCrc32Tbl, tickT32Build, hph]
  | bytes =>
    rcases lengthBounded_of_position_bytes hph hp with rfl | ⟨hi, hc⟩
    · simpa [tickOf, tickCrc32Nt, hph] using s.nextByteNt_isNext
    · obtain ⟨use, fin, h⟩ := tickOf_of_bytes hph hi
      exact h ▸ State.nextByte_isNext hc use fin
  | rounds =>
    rcases bitEngine_of_position_rounds hph hp with rfl | rfl | rfl | rfl <;>
      simp [tickOf, tickCrc16Bit, tickCrc32Ref, tickCrc32Std, tickCrc32Nt, hph]

/-- A BUSY block of the invariant takes its next step; that of a reserved word is its fault. -/
theorem tick_isNext (hinv : Inv s) (hb : s.busy = true) : ∃ t, tick s = .next t := by
  obtain ⟨-, -, hrun⟩ := hinv
  cases hd : decode s.runCmd with
  | error e => exact ⟨_, tick_of_error hd⟩
  | ok i =>
    obtain ⟨-, -, hp⟩ := (running_iff_of_ok hd).1 (hrun hb)
    exact tick_of_ok hd ▸ tickOf_isNext hp

/-- An idle block takes a step at either grain, from any state. -/
theorem step_isNext_of_idle (hb : s.busy = false) : ∃ t, step s = .next t := by
  simp only [step, hb, Bool.false_eq_true, if_false]
  split
  · split
    next i _ => exact (exec_commandEnd i s).imp fun _ => And.left
    next => exact ⟨_, rfl⟩
  · exact ⟨_, rfl⟩

theorem seqStep_isNext_of_idle (hb : s.busy = false) : ∃ t, seqStep s = .next t := by
  simp only [seqStep, hb, Bool.false_eq_true, if_false]
  split <;> exact ⟨_, rfl⟩

/-- Settles O57: an idle block always goes on, and a BUSY one by its place in its command's sequence. -/
theorem invariantStatesAlwaysStep : Obligations.InvariantStatesAlwaysStep := by
  intro s hinv
  cases hb : s.busy with
  | false => exact ⟨step_isNext_of_idle hb, seqStep_isNext_of_idle hb⟩
  | true =>
    have htick := tick_isNext hinv hb
    exact ⟨step_of_busy hb ▸ htick, by rwa [seqStep, if_pos hb]⟩

end
end Sys2Proof.Machine
end

section
namespace Sys2Proof.Machine

/-! ### The words that select a command -/

/-- The opcode map holds each command's own word, under the full mask (30_encoding.md R74). -/
theorem opcodeTable_encode :
    ∀ row ∈ opcodeTable, row.mask = 0xFF#8 ∧ row.value = encode row.instr := by decide

theorem decode_encode (i : Instr) : decode (encode i) = .ok i := by cases i <;> decide

/-- The row that a word selects has the word as its value. -/
theorem eq_encode_of_decode {w : Byte} {i : Instr} (h : decode w = .ok i) : w = encode i := by
  unfold decode at h
  split at h
  · cases h
  · split at h
    next row hrow =>
      cases h
      obtain ⟨hmask, hvalue⟩ := opcodeTable_encode row (List.mem_of_find?_eq_some hrow)
      have hsel := List.find?_some hrow
      rw [OpcodeRow.selects, beq_iff_eq, hmask, hvalue] at hsel
      exact BitVec.and_allOnes.symm.trans hsel
    next => cases h

/-- Settles O1: the ten words are what the ten commands assemble. -/
theorem specWordsDecodeToTheirCommands : Obligations.SpecWordsDecodeToTheirCommands :=
  ⟨decode_encode .crc16Bit, decode_encode .crc16Tbl, decode_encode .t16Build, decode_encode .rev8,
    decode_encode .crc32Ref, decode_encode .crc32Tbl, decode_encode .t32Build, decode_encode .rev32,
    decode_encode .crc32Std, decode_encode .crc32Nt⟩

theorem decode_eq_ok_iff {w : Byte} {i : Instr} : decode w = .ok i ↔ w = encode i :=
  ⟨eq_encode_of_decode, fun h => h ▸ decode_encode i⟩

/-- Settles O2: the map and the fields give each command one word. -/
theorem encodeAndDecodeAgree : Obligations.EncodeAndDecodeAgree :=
  ⟨decode_encode, fun _ _ => eq_encode_of_decode⟩

/-- The ten words as numbers. -/
theorem exists_decode_ok_iff (w : Byte) :
    (∃ i, decode w = .ok i) ↔ w.toNat ≤ 3 ∨ 8 ≤ w.toNat ∧ w.toNat ≤ 13 := by
  simp only [decode_eq_ok_iff]
  constructor
  · rintro ⟨i, rfl⟩
    cases i <;> decide
  · intro h
    have hw : w = 0x00#8 ∨ w = 0x01#8 ∨ w = 0x02#8 ∨ w = 0x03#8 ∨ w = 0x08#8 ∨ w = 0x09#8 ∨
        w = 0x0A#8 ∨ w = 0x0B#8 ∨ w = 0x0C#8 ∨ w = 0x0D#8 := by bv_omega
    rcases hw with rfl | rfl | rfl | rfl | rfl | rfl | rfl | rfl | rfl | rfl
    exacts [⟨.crc16Bit, rfl⟩, ⟨.crc16Tbl, rfl⟩, ⟨.t16Build, rfl⟩, ⟨.rev8, rfl⟩, ⟨.crc32Ref, rfl⟩,
      ⟨.crc32Tbl, rfl⟩, ⟨.t32Build, rfl⟩, ⟨.rev32, rfl⟩, ⟨.crc32Std, rfl⟩, ⟨.crc32Nt, rfl⟩]

/-- The fields Z, W and FN pick out the same numbers (30_encoding.md R70, R72). -/
theorem commandWord_wellFormed_iff (w : Byte) :
    CommandWord.wellFormed w = true ↔ w.toNat ≤ 3 ∨ 8 ≤ w.toNat ∧ w.toNat ≤ 13 := by
  simp only [CommandWord.wellFormed, CommandWord.zClear, CommandWord.functionDefined, Bool.and_eq_true,
    Bool.or_eq_true, beq_iff_eq, decide_eq_true_eq]
  omega

theorem exists_decode_error_iff (w : Byte) :
    (∃ e, decode w = .error e) ↔ ¬ ∃ i, decode w = .ok i := by
  cases decode w <;> simp

/-- Settles O3: a word is reserved where its number is none of the ten. -/
theorem reservedWordsAreExactlyTheListedOnes : Obligations.ReservedWordsAreExactlyTheListedOnes := by
  intro w
  refine ⟨?_, (commandWord_wellFormed_iff w).trans (exists_decode_ok_iff w).symm⟩
  rw [exists_decode_error_iff, exists_decode_ok_iff]
  bv_omega

/-- Settles O8: a reserved word's step is its fault entry. -/
theorem reservedWordRaisesIllegalCommand : Obligations.ReservedWordRaisesIllegalCommand := by
  intro s hb hp hw
  obtain ⟨e, he⟩ := (reservedWordsAreExactlyTheListedOnes s.cmd).1.2 hw
  have hstep : step s = .next (execReserved s) := by simp [step, hb, hp, he]
  exact ⟨_, hstep, faulted_accept_raiseFault s _, rfl, rfl, rfl, rfl, rfl⟩

end Sys2Proof.Machine
end

section
namespace Sys2Proof.Machine

/-! ### The operands a command does not use -/

section
variable {i : Instr} {s t : State}

/-- The block with other operands, at the port and sampled. -/
def State.withOperands (s : State) (a n : Word) : State :=
  { s with arg := a, len := n, runArg := a, runLen := n }

theorem accept_withPorts (a n : Word) :
    (s.withPorts s.presented s.cmd a n).accept = s.accept.withOperands a n := rfl

theorem lazyBuild16_withOperands (a n : Word) :
    (s.withOperands a n).lazyBuild16 = s.lazyBuild16.withOperands a n := by
  unfold State.lazyBuild16
  rw [apply_ite (State.withOperands · a n)]
  rfl

theorem lazyBuild32_withOperands (a n : Word) :
    (s.withOperands a n).lazyBuild32 = s.lazyBuild32.withOperands a n := by
  unfold State.lazyBuild32
  rw [apply_ite (State.withOperands · a n)]
  rfl

theorem runTbl16_withOperands {a n : Word} (hn : n = s.runLen) :
    (s.withOperands a n).runTbl16 = s.runTbl16.withOperands a n := by
  subst hn; rfl

theorem runTbl32_withOperands {a n : Word} (hn : n = s.runLen) :
    (s.withOperands a n).runTbl32 = s.runTbl32.withOperands a n := by
  subst hn; rfl

theorem operandUse_of_lengthBounded (h : Instr.lengthBounded i = true) : Instr.operandUse i = .len := by
  cases i with
  | crc16Bit | crc16Tbl | crc32Ref | crc32Tbl | crc32Std => rfl
  | t16Build | rev8 | t32Build | rev32 | crc32Nt => cases h

/-- A command runs the same with other operands, where it uses none that differs: REV8 the low byte of
ARG, REV32 all of it, the length-bounded commands LEN (30_encoding.md R71). -/
theorem exec_withOperands {a n : Word} (h8 : i = .rev8 → a.setWidth 8 = s.arg.setWidth 8)
    (h32 : i = .rev32 → a = s.arg) (hn : Instr.operandUse i = .len → n = s.len)
    (h : exec i s = .next t) :
    exec i (s.withPorts s.presented s.cmd a n) = .next (t.withOperands a n) := by
  cases commandEnd_of_exec h
  case lengthFault hl hi =>
    cases hn (operandUse_of_lengthBounded hi)
    exact exec_of_lt hi hl
  case terminatorFault hnul =>
    exact exec_crc32Nt_of_noNul (s := s.withPorts s.presented s.cmd a n) hnul
  case crc16Bit hl => cases hn rfl; exact exec_crc16Bit_of_le hl
  case crc16Tbl hl =>
    cases hn rfl
    rw [exec_crc16Tbl_of_le (s := s.withPorts s.presented s.cmd a s.len) hl, accept_withPorts,
      lazyBuild16_withOperands, runTbl16_withOperands (by simp)]
    rfl
  case t16Build => rfl
  case rev8 =>
    have harg : (s.withPorts s.presented s.cmd a n).accept.argByte = s.accept.argByte := h8 rfl
    rw [exec, execRev8, State.finishRev8, harg]
    rfl
  case crc32Ref hl => cases hn rfl; exact exec_crc32Ref_of_le hl
  case crc32Tbl hl =>
    cases hn rfl
    rw [exec_crc32Tbl_of_le (s := s.withPorts s.presented s.cmd a s.len) hl, accept_withPorts,
      lazyBuild32_withOperands, runTbl32_withOperands (by simp)]
    rfl
  case t32Build => rfl
  case rev32 => cases h32 rfl; rfl
  case crc32Std hl => cases hn rfl; exact exec_crc32Std_of_le hl
  case crc32Nt z hz =>
    exact exec_crc32Nt_of_firstNul (s := s.withPorts s.presented s.cmd a n) hz

end

/-- Settles O40: with other values at the ports it does not use, a command ends in the same state but for
the operands themselves, which no view, table or flag shows. -/
theorem unusedOperandPortsAreIgnored : Obligations.UnusedOperandPortsAreIgnored := by
  refine ⟨fun i s a n ha hn => ?_, fun s a ha => ?_⟩
  · obtain ⟨t, h, -⟩ := exec_commandEnd i s
    have h8 : i = .rev8 → a.setWidth 8 = s.arg.setWidth 8 := by rintro rfl; rw [ha rfl]
    have h32 : i = .rev32 → a = s.arg := by rintro rfl; exact ha rfl
    exact ⟨t, _, h, exec_withOperands h8 h32 hn h, ⟨rfl, rfl⟩, ⟨rfl, rfl⟩, rfl, rfl⟩
  · obtain ⟨t, h, -⟩ := exec_commandEnd .rev8 s
    exact ⟨t, _, h, exec_withOperands (n := s.len) (fun _ => ha) nofun nofun h, rfl, rfl⟩

end Sys2Proof.Machine
end

section
namespace Sys2Proof.Machine

/-! ### What a script line does -/

section
variable {s t : State}

theorem Line.command_ports (i : Instr) (x : Nat) :
    (Line.command i x).ports =
      some (encode i, if Instr.operandUse i = .arg then BitVec.ofNat 32 x else 0,
        if Instr.operandUse i = .len then BitVec.ofNat 32 x else 0) := by
  rw [Line.ports]
  cases Instr.operandUse i <;> rfl

/-- The port a command does not use is driven with 0. -/
theorem Line.unused_of_command_ports {i : Instr} {x : Nat} {c : Byte} {a n : Word}
    (hp : (Line.command i x).ports = some (c, a, n)) :
    (Instr.operandUse i ≠ .arg → a = 0#32) ∧ (Instr.operandUse i ≠ .len → n = 0#32) := by
  rw [Line.command_ports] at hp
  cases hp
  exact ⟨fun h => if_neg h, fun h => if_neg h⟩

/-- A well-formed line with port values issues them. -/
theorem runLine_of_ports {l : Line} {c : Byte} {a n : Word} (hw : l.wellFormed = true)
    (hp : l.ports = some (c, a, n)) : runLine l s = issueAndWait s c a n := by
  unfold runLine
  rw [if_pos hw, hp]

theorem runLine_of_illFormed {l : Line} (hw : l.wellFormed = false) :
    runLine l s = .refused .illFormedLine := by
  simp [runLine, hw]

/-- Lines that are legal together and present the same port values do the same. -/
theorem runLine_congr {l l' : Line} {p : Byte × Word × Word} (hw : l.wellFormed = l'.wellFormed)
    (hp : l.ports = some p) (hp' : l'.ports = some p) (s : State) : runLine l s = runLine l' s := by
  cases h : l.wellFormed with
  | true => rw [runLine_of_ports h hp, runLine_of_ports (hw ▸ h) hp']
  | false => rw [runLine_of_illFormed h, runLine_of_illFormed (hw ▸ h)]

/-- The command is issued where the wait ends. -/
theorem issueAndWait_of_wait (h : tickRun s.tickBound s = .next t) (c : Byte) (a n : Word) :
    issueAndWait s c a n = step (t.issue c a n) := by
  rw [issueAndWait, waitIdle, h]

theorem runLine_msg {bs : List Nat} (hw : Line.wellFormed (.msg bs) = true) :
    runLine (.msg bs) s = writeFrom 0 (bs.map (BitVec.ofNat 8)) s := if_pos hw

theorem runLine_msgFill {lo hi b : Nat} (hw : Line.wellFormed (.msgFill lo hi b) = true) :
    runLine (.msgFill lo hi b) s =
      writeFrom lo (List.replicate (hi + 1 - lo) (BitVec.ofNat 8 b)) s := if_pos hw

/-- `.msg` whose bytes end at or below CAP. -/
theorem runLine_msg_of_le {bs : List Nat} (hw : Line.wellFormed (.msg bs) = true)
    (hb : s.busy = false) (hle : bs.length ≤ s.cap.toNat) :
    ∃ t, runLine (.msg bs) s = .next t ∧ t = { s with msg := t.msg } ∧
      (∀ k (h : k < bs.length), t.msgByte k = BitVec.ofNat 8 bs[k]) ∧
      (∀ k, bs.length ≤ k → t.msgByte k = s.msgByte k) ∧ (MessageWf s → MessageWf t) := by
  obtain ⟨t, ht, hs, hin, hout, hwf⟩ :=
    writeFrom_of_le (bs.map (BitVec.ofNat 8)) 0 hb (by simpa using hle)
  refine ⟨t, runLine_msg hw ▸ ht, hs, fun k hk => ?_, fun k hk => hout k (.inr (by simpa using hk)), hwf⟩
  have hbyte := hin k (by simpa using hk)
  rwa [Nat.zero_add, List.getElem_map] at hbyte

/-- `.msgfill` of a range below CAP. -/
theorem runLine_msgFill_of_lt {lo hi b : Nat} (hw : Line.wellFormed (.msgFill lo hi b) = true)
    (hb : s.busy = false) (hle : lo ≤ hi) (hcap : hi < s.cap.toNat) :
    ∃ t, runLine (.msgFill lo hi b) s = .next t ∧ t = { s with msg := t.msg } ∧
      (∀ k, lo ≤ k → k ≤ hi → t.msgByte k = BitVec.ofNat 8 b) ∧
      (∀ k, k < lo ∨ hi < k → t.msgByte k = s.msgByte k) ∧ (MessageWf s → MessageWf t) := by
  obtain ⟨t, ht, hs, hin, hout, hwf⟩ :=
    writeFrom_of_le (List.replicate (hi + 1 - lo) (BitVec.ofNat 8 b)) lo hb (by simp; omega)
  rw [List.length_replicate] at hout
  refine ⟨t, runLine_msgFill hw ▸ ht, hs, fun k hlo hhi => ?_, fun k hk => hout k (by omega), hwf⟩
  have hbyte := hin (k - lo) (by simp; omega)
  rwa [Nat.add_sub_cancel' hlo, List.getElem_replicate] at hbyte

theorem runLine_cap {n : Nat} (hw : Line.wellFormed (.cap n) = true) :
    runLine (.cap n) s = .next (s.withCap (BitVec.ofNat 32 n)) := if_pos hw

end

/-- Settles O5: the port values are the same, and a line that issues a command is known by them. -/
theorem pseudoCommandsAreTheirExpansions : Obligations.PseudoCommandsAreTheirExpansions :=
  fun _ => ⟨rfl, rfl, fun s => ⟨runLine_congr rfl rfl rfl s, runLine_congr rfl rfl rfl s⟩⟩

/-- Settles O6, line by line: the writes of a directive are one run of the caller's, and its length says
whether it ends below CAP. -/
theorem scriptLineIssuesItsPorts : Obligations.ScriptLineIssuesItsPorts := by
  refine ⟨fun l s c a n hw hp => ?issue, fun bs s hw => ?msg, fun lo hi b s hw => ?fill,
    fun n s hw => ?cap, fun s => rfl, fun l s hw => runLine_of_illFormed hw⟩
  case issue =>
    rw [runLine_of_ports hw hp]
    refine ⟨fun hb => issueAndWait_of_wait (tickRun_of_idle hb _) c a n,
      fun t ht => issueAndWait_of_wait ht c a n, ?_, ?_⟩
    · rintro i x rfl
      exact (Line.unused_of_command_ports hp).1
    · rintro i x rfl
      exact (Line.unused_of_command_ports hp).2
  case msg =>
    have hne : bs.map (BitVec.ofNat 8) ≠ [] := by
      intro h
      cases List.map_eq_nil_iff.1 h
      cases hw
    refine ⟨runLine_msg_of_le hw, fun hb hlt => ?_, fun hb => ?_⟩
    · exact (runLine_msg hw).trans (writeFrom_of_lt _ 0 hb hne (by simpa using hlt))
    · exact (runLine_msg hw).trans (writeFrom_of_busy 0 hb hne)
  case fill =>
    have hne (h : lo ≤ hi) : List.replicate (hi + 1 - lo) (BitVec.ofNat 8 b) ≠ [] := by simp; omega
    refine ⟨fun hlt => ?_, runLine_msgFill_of_lt hw, fun hb hle hcap => ?_, fun hb hle => ?_⟩
    · rw [runLine_msgFill hw, Nat.sub_eq_zero_of_le hlt]
      rfl
    · exact (runLine_msgFill hw).trans (writeFrom_of_lt _ lo hb (hne hle) (by simp; omega))
    · exact (runLine_msgFill hw).trans (writeFrom_of_busy lo hb (hne hle))
  case cap =>
    have hn : (BitVec.ofNat 32 n).toNat = n :=
      (BitVec.toNat_ofNat n 32).trans (Nat.mod_eq_of_lt (of_decide_eq_true hw))
    exact ⟨_, runLine_cap hw, rfl, hn, fun k hk => State.withCap_msgByte s _ (hn.symm ▸ hk),
      fun hm => State.withCap_messageWf _ hm.1⟩

end Sys2Proof.Machine
end

section
namespace Sys2Proof.Machine

/-! ### The words of a text -/

/-- A word of a script: it has letters, and none of them separates words or starts a comment. -/
def IsWord (w : List Char) : Prop := w ≠ [] ∧ ∀ c ∈ w, isSpace c = false ∧ c ≠ ';'

/-- Letters go to the word being read. -/
theorem wordsFrom_append {w : List Char} (hw : ∀ c ∈ w, isSpace c = false) (acc t : List Char) :
    wordsFrom acc (w ++ t) = wordsFrom (w.reverse ++ acc) t := by
  induction w generalizing acc with
  | nil => rfl
  | cons c w ih =>
    obtain ⟨hc, hw⟩ := List.forall_mem_cons.1 hw
    simp [wordsFrom, hc, ih hw]

/-- The words each after a space are read as those words, after the one being read. -/
theorem wordsFrom_flatMap_space {ws : List (List Char)} (hws : ∀ w ∈ ws, IsWord w) (acc : List Char) :
    wordsFrom acc (ws.flatMap fun w => ' ' :: w) =
      (if acc.isEmpty then [] else [acc.reverse]) ++ ws := by
  induction ws generalizing acc with
  | nil => simp [wordsFrom]
  | cons w ws ih =>
    obtain ⟨⟨hne, hw⟩, hws⟩ := List.forall_mem_cons.1 hws
    have hrest : wordsFrom [] (w ++ ws.flatMap fun w => ' ' :: w) = w :: ws := by
      rw [wordsFrom_append fun c hc => (hw c hc).1, ih hws]
      simp [hne]
    have hspace : isSpace ' ' = true := rfl
    rw [List.flatMap_cons, List.cons_append, wordsFrom, if_pos hspace, hrest]
    split <;> rfl

theorem words_flatMap_space {ws : List (List Char)} (hws : ∀ w ∈ ws, IsWord w) :
    words (ws.flatMap fun w => ' ' :: w) = ws :=
  wordsFrom_flatMap_space hws []

/-- Words hold no comment. -/
theorem beforeComment_flatMap_space {ws : List (List Char)} (hws : ∀ w ∈ ws, IsWord w) :
    beforeComment (ws.flatMap fun w => ' ' :: w) = ws.flatMap fun w => ' ' :: w := by
  refine List.takeWhile_eq_self_iff.2 fun c hc => bne_iff_ne.2 ?_
  obtain ⟨w, hw, hc⟩ := List.mem_flatMap.1 hc
  rcases List.mem_cons.1 hc with rfl | hc
  · decide
  · exact ((hws w hw).2 c hc).2

/-! ### Numbers -/

theorem hexDigits_ne_nil (k n : Nat) : hexDigits (k + 1) n ≠ [] := by simp [hexDigits]

/-- Every sign printed is a digit's. -/
theorem mem_hexDigits {k n : Nat} {c : Char} (h : c ∈ hexDigits k n) : ∃ d < 16, c = hexChar d := by
  induction k generalizing n with
  | zero => cases h
  | succ k ih =>
    rcases List.mem_append.1 h with h | h
    · exact ih h
    · exact ⟨n % 16, Nat.mod_lt _ (by decide), List.mem_singleton.1 h⟩

/-- The last `k` digits of a number write it, where they are all it has. -/
theorem digitsValue_hexDigits {k n : Nat} (h : n < 16 ^ k) :
    digitsValue 16 hexDigit (hexDigits k n) = some n := by
  induction k generalizing n with
  | zero =>
    obtain rfl : n = 0 := by simpa using h
    rfl
  | succ k ih =>
    have hdiv : n / 16 < 16 ^ k := Nat.div_lt_of_lt_mul (by rwa [← Nat.pow_succ'])
    have hlast : hexDigit (hexChar (n % 16)) = some (n % 16) :=
      hexDigit_hexChar _ (Nat.mod_lt _ (by decide))
    have hinit := ih hdiv
    rw [digitsValue] at hinit
    rw [hexDigits, digitsValue, List.foldlM_append, hinit]
    simp [hlast, Nat.div_add_mod]

/-- With at least one digit, that is a number. -/
theorem hexNumber_hexDigits {k n : Nat} (h : n < 16 ^ (k + 1)) :
    hexNumber (hexDigits (k + 1) n) = some n := by
  rw [← digitsValue_hexDigits h]
  cases hd : hexDigits (k + 1) n with
  | nil => exact absurd hd (hexDigits_ne_nil k n)
  | cons c t => rfl

theorem number_portText {n : Nat} (h : n < 2 ^ 32) : number (portText n) = some n :=
  hexNumber_hexDigits (k := 7) h

theorem hexNumber_byteText {n : Nat} (h : n < 256) : hexNumber (byteText n) = some n :=
  hexNumber_hexDigits (k := 1) h

theorem isWord_hexDigits (k n : Nat) : IsWord (hexDigits (k + 1) n) := by
  have hsigns : ∀ d < 16, isSpace (hexChar d) = false ∧ hexChar d ≠ ';' := by decide
  refine ⟨hexDigits_ne_nil k n, fun c hc => ?_⟩
  obtain ⟨d, hd, rfl⟩ := mem_hexDigits hc
  exact hsigns d hd

theorem isWord_byteText (n : Nat) : IsWord (byteText n) := isWord_hexDigits 1 n

theorem isWord_portText (n : Nat) : IsWord (portText n) := by
  obtain ⟨-, hdigits⟩ := isWord_hexDigits 7 n
  exact ⟨nofun, List.forall_mem_cons.2 ⟨by decide, List.forall_mem_cons.2 ⟨by decide, hdigits⟩⟩⟩

/-! ### The words of a line -/

theorem isWord_mnemonic (i : Instr) : IsWord (Instr.mnemonic i).toList := by
  cases i <;> simp [Instr.mnemonic, IsWord, isSpace]

/-- The names that are no command's mnemonic. -/
theorem isWord_lineName :
    ∀ name ∈ ["RAW", "CRC16", "CRC32", ".cap", ".msg", ".msgfill"], IsWord name.toList := by
  simp [IsWord, isSpace]

theorem isWord_of_mem_toWords (l : Line) : ∀ w ∈ l.toWords, IsWord w := by
  have hname := isWord_lineName
  simp only [List.forall_mem_cons] at hname
  obtain ⟨hraw, hcrc16, hcrc32, hcap, hmsg, hfill, -⟩ := hname
  cases l with
  | command i x =>
    rw [Line.toWords]
    cases Instr.operandUse i <;> simp [isWord_mnemonic, isWord_portText]
  | raw c a n => simpa [Line.toWords, isWord_portText] using hraw
  | crc16 n => simpa [Line.toWords, isWord_portText] using hcrc16
  | crc32 n => simpa [Line.toWords, isWord_portText] using hcrc32
  | cap n => simpa [Line.toWords, isWord_portText] using hcap
  | msg bs => simpa [Line.toWords, isWord_byteText] using hmsg
  | msgFill lo hi b => simpa [Line.toWords, isWord_portText, isWord_byteText] using hfill
  | blank => simp [Line.toWords]

/-! ### The line of a list of words -/

/-- No two commands share a mnemonic. -/
theorem ofMnemonic_mnemonic (i : Instr) : Instr.ofMnemonic (Instr.mnemonic i).toList = some i := by
  cases i <;> simp [Instr.ofMnemonic, Instr.all, Instr.mnemonic]

/-- A mnemonic is no other name of a line. -/
theorem mnemonic_ne_lineName (i : Instr) :
    (Instr.mnemonic i).toList ≠ "RAW".toList ∧ (Instr.mnemonic i).toList ≠ "CRC16".toList ∧
      (Instr.mnemonic i).toList ≠ "CRC32".toList ∧ (Instr.mnemonic i).toList ≠ ".cap".toList ∧
      (Instr.mnemonic i).toList ≠ ".msg".toList ∧ (Instr.mnemonic i).toList ≠ ".msgfill".toList := by
  cases i <;> simp [Instr.mnemonic]

/-- The mnemonic of a command without an operand is its whole line. -/
theorem ofWords_mnemonic_of_none {i : Instr} (hu : Instr.operandUse i = .none) :
    Line.ofWords [(Instr.mnemonic i).toList] = some (.command i 0) := by
  simp only [Line.ofWords, beq_iff_eq, mnemonic_ne_lineName, if_false, ofMnemonic_mnemonic, hu]

/-- Any other mnemonic takes one number. -/
theorem ofWords_mnemonic_of_operand {i : Instr} (hu : Instr.operandUse i ≠ .none) (x : List Char) :
    Line.ofWords [(Instr.mnemonic i).toList, x] = (number x).map (.command i) := by
  simp only [Line.ofWords, beq_iff_eq, mnemonic_ne_lineName, if_false, ofMnemonic_mnemonic]
  cases h : Instr.operandUse i with
  | none => exact absurd h hu
  | arg => rfl
  | len => rfl

theorem mapM_hexNumber_byteText {bs : List Nat} (h : ∀ b ∈ bs, b < 256) :
    (bs.map byteText).mapM hexNumber = some bs := by
  induction bs with
  | nil => rfl
  | cons b bs ih =>
    obtain ⟨hb, hbs⟩ := List.forall_mem_cons.1 h
    simp [hexNumber_byteText hb, ih hbs]

/-- The words of a well-formed line stand for it. -/
theorem ofWords_toWords {l : Line} (h : l.wellFormed = true) : Line.ofWords l.toWords = some l := by
  cases l with
  | command i x =>
    rw [Line.wellFormed] at h
    rw [Line.toWords]
    cases hu : Instr.operandUse i with
    | none =>
      have hx : x = 0 := by simpa [hu] using h
      exact hx ▸ ofWords_mnemonic_of_none hu
    | arg | len =>
      have hx : x < 2 ^ 32 := by simpa [hu] using h
      exact (ofWords_mnemonic_of_operand (by simp [hu]) _).trans (by rw [number_portText hx]; rfl)
  | raw c a n =>
    obtain ⟨⟨hc, ha⟩, hn⟩ : (c < 256 ∧ a < 2 ^ 32) ∧ n < 2 ^ 32 := by simpa [Line.wellFormed] using h
    simp [Line.toWords, Line.ofWords, number_portText (hc.trans (by decide)), number_portText ha,
      number_portText hn]
  | crc16 n | crc32 n | cap n =>
    have hn : n < 2 ^ 32 := of_decide_eq_true h
    simp [Line.toWords, Line.ofWords, number_portText hn]
  | msg bs =>
    obtain ⟨-, hbs⟩ : bs ≠ [] ∧ ∀ b ∈ bs, b < 256 := by simpa [Line.wellFormed] using h
    simp [Line.toWords, Line.ofWords, mapM_hexNumber_byteText hbs]
  | msgFill lo hi b =>
    obtain ⟨⟨hlo, hhi⟩, hb⟩ : (lo < 2 ^ 32 ∧ hi < 2 ^ 32) ∧ b < 256 := by
      simpa [Line.wellFormed] using h
    simp [Line.toWords, Line.ofWords, number_portText hlo, number_portText hhi, hexNumber_byteText hb]
  | blank => rfl

/-- Settles O4: the words of the printed text are the line's words, and they stand for the line. -/
theorem scriptTextRoundTrip : Obligations.ScriptTextRoundTrip := by
  intro l h
  have hwords := isWord_of_mem_toWords l
  rw [Line.parse, Line.text, beforeComment_flatMap_space hwords, words_flatMap_space hwords,
    ofWords_toWords h]
  exact if_pos h

end Sys2Proof.Machine
end

section
namespace Sys2Proof.Machine

/-! ### Reversal and rounds -/

theorem rev32_xor (a b : Word) : rev32 (a ^^^ b) = rev32 a ^^^ rev32 b := by
  ext i hi
  simp

theorem rev32_shiftLeft_one (r : Word) : rev32 (r <<< 1) = rev32 r >>> 1 := by
  apply BitVec.eq_of_getLsbD_eq
  intro i hi
  rw [BitVec.getLsbD_ushiftRight, rev32_getLsbD, rev32_getLsbD, BitVec.getLsbD_shiftLeft]
  by_cases h : i = 31
  · subst h; simp
  · have h1 : 31 - i - 1 = 31 - (1 + i) := by omega
    simp [hi, h1, show 1 + i < 32 by omega, show ¬31 - i = 0 by omega, show 31 - i < 32 by omega]

/-- The polynomial of the reflected engine is the standard one reversed (00_scope.md R3). -/
theorem rev32_poly32 : rev32 poly32 = polyReflected32 := by decide +kernel

/-- A standard-form round is a reflected round seen through the reversal (42_crc32_bit.md R122): the bit
shifted out at the top is the one shifted out at the bottom. -/
theorem rev32_round32s (r : Word) : rev32 (round32s r) = round32r (rev32 r) := by
  have hbit : (rev32 r).getLsbD 0 = r.getLsbD 31 := rev32_getLsbD r 0
  cases h : r.getLsbD 31 with
  | false => simp only [round32s, round32r, hbit, h, Bool.false_eq_true, if_false, rev32_shiftLeft_one]
  | true => simp only [round32s, round32r, hbit, h, if_true, rev32_xor, rev32_shiftLeft_one, rev32_poly32]

theorem round16_getLsbD_top (r : Half) : (round16 r).getLsbD 15 = r.getLsbD 0 := by
  rw [round16]
  split <;> simp_all [poly16]

theorem round32s_getLsbD_bottom (r : Word) : (round32s r).getLsbD 0 = r.getLsbD 31 := by
  rw [round32s]
  split <;> simp_all [poly32]

theorem round32r_getLsbD_top (r : Word) : (round32r r).getLsbD 31 = r.getLsbD 0 := by
  rw [round32r]
  split <;> simp_all [polyReflected32]

/-- Settles O27: the rounds are the shift and XOR by definition; their incoming bit and the mirror are
lemmas. -/
theorem roundsShiftAndConditionallyXor : Obligations.RoundsShiftAndConditionallyXor :=
  ⟨fun r => ⟨rfl, round16_getLsbD_top r⟩, fun r => ⟨rfl, round32s_getLsbD_bottom r⟩,
    fun r => ⟨rfl, round32r_getLsbD_top r, rev32_round32s r⟩⟩

/-! ### One lookup in T16 -/

/-- While only zeros are shifted out, rounds are plain shifts (40_crc16.md R94). -/
theorem round16_iterate_of_zeros {n : Nat} {r : Half} (h : ∀ k, k < n → r.getLsbD k = false) :
    round16^[n] r = r >>> n := by
  induction n with
  | zero => simp
  | succ n ih =>
    rw [Function.iterate_succ_apply', ih fun k hk => h k (by omega), BitVec.shiftRight_add]
    simp [round16, h n (by omega)]

/-- The register with a byte absorbed is its own high byte and, below, the index of the lookup. -/
theorem absorb16_eq_high_xor_index (r : Half) (b : Byte) :
    absorb16 r b = (r >>> 8 <<< 8) ^^^ (index16 r b).setWidth 16 := by
  apply BitVec.eq_of_getLsbD_eq
  intro k hk
  by_cases h8 : k < 8
  · simp [absorb16, index16, hk, h8, Bool.xor_comm]
  · simp [absorb16, index16, hk, h8, show 8 + (k - 8) = k by omega]

theorem round16_iterate_high (r : Half) : round16^[8] (r >>> 8 <<< 8) = r >>> 8 := by
  rw [round16_iterate_of_zeros fun k hk => by simp [hk]]
  apply BitVec.eq_of_getLsbD_eq
  intro k hk
  by_cases h8 : k < 8
  · simp [show 8 + k < 16 by omega]
  · simp [BitVec.getLsbD_of_ge r (8 + k) (by omega)]

/-- One lookup in the valid T16 does what absorbing the byte and eight rounds do (40_crc16.md R94): the
rounds of the high byte are shifts, those of the index are the entry. -/
theorem step16t_table16 (r : Half) (b : Byte) : step16t table16 r b = byte16 r b := by
  have hx : (index16 r b).toNat < 256 := (index16 r b).isLt
  rw [step16t, table16_getElem _ hx, entry16_eq hx, byte16, absorb16_eq_high_xor_index,
    iterate_xor round16_xor, round16_iterate_high, BitVec.ofNat_toNat]

/-- A T16 with the right entries is the constant one (40_crc16.md R92). -/
theorem eq_table16 {t : Table16} (h : ∀ i (hi : i < 256), t[i] = entry16 i) : t = table16 :=
  Vector.ext fun i hi => by rw [h i hi, table16_getElem i hi]

theorem eq_table32 {t : Table32} (h : ∀ i (hi : i < 256), t[i] = entry32 i) : t = table32 :=
  Vector.ext fun i hi => by rw [h i hi, table32_getElem i hi]

/-- Settles O31: a valid table is the constant one. -/
theorem lookupInT16IsEightRounds : Obligations.LookupInT16IsEightRounds := by
  intro t r b ht
  have htab : t = table16 := eq_table16 fun i hi => (ht i hi).trans (entry16_eq hi).symm
  exact ⟨rfl, htab ▸ step16t_table16 r b⟩

/-! ### The CRC-16 commands -/

/-- Entry by entry, the constant T16 as the rule gives it (40_crc16.md R92). -/
theorem table16_getElem_eq_rounds (i : Nat) (hi : i < 256) :
    table16[i] = round16^[8] (BitVec.ofNat 16 i) := by
  rw [table16_getElem i hi, entry16_eq hi]

/-- Settles O16: the register after `k` bytes is that of the loop over the first `k` bytes. -/
theorem crc16BitRunsTheShiftLoop : Obligations.Crc16BitRunsTheShiftLoop := by
  refine ⟨decode_encode .crc16Bit, fun s hl => ?_,
    fun s hl => ⟨_, exec_of_lt rfl hl, faulted_accept_raiseFault s _⟩⟩
  refine ⟨fun k => crc16Reg (s.msgBytes k), _, exec_crc16Bit_of_le hl, rfl,
    fun k _ => State.foldl_msgBytes_succ byte16 init16 s k, ?_⟩
  simp [CompletedWith, SameT16, SameT32]

/-- Settles O17: a full build leaves the constant T16, whatever was there. -/
theorem t16BuildWritesEveryEntry : Obligations.T16BuildWritesEveryEntry :=
  ⟨decode_encode .t16Build, fun s => ⟨_, rfl, table16_getElem_eq_rounds, rfl, by simp [CompletedSilently],
    by simp [SameT32]⟩⟩

/-- Settles O18: the register after `k` bytes is that of the lookups for the first `k` bytes, in the table
as the lazy build leaves it. -/
theorem crc16TblLooksUpEachByte : Obligations.Crc16TblLooksUpEachByte := by
  refine ⟨decode_encode .crc16Tbl, fun s hl => ?_,
    fun s hl => ⟨_, exec_of_lt rfl hl, faulted_accept_raiseFault s _⟩⟩
  refine ⟨fun k => crc16TblReg s.accept.lazyBuild16.t16 (s.msgBytes k), _, exec_crc16Tbl_of_le hl,
    by simp, fun hv => by simp [hv], fun hv => ?_, rfl,
    fun k _ => State.foldl_msgBytes_succ (step16t s.accept.lazyBuild16.t16) init16 s k, ?_⟩
  · simpa [hv] using fun i hi => entry16_eq hi
  · simp [CompletedWith, SameT32]

/-- Settles O42: the common part holds of every end, the rest goes end by end; a faulting one has ERR not
0. -/
theorem frameOfCrc16Commands : Obligations.FrameOfCrc16Commands := by
  intro i s t hi h
  have hend := commandEnd_of_exec h
  have hsur := hend.sameSurroundings
  have hT32 : SameT32 s t := by
    rcases hend.keptOrBuilt32 with hk | ⟨rfl | rfl, -⟩
    · exact hk
    · simp at hi
    · simp at hi
  refine ⟨hsur, .of_msg_eq hsur.1, hT32, fun herr => ?_⟩
  cases hend
  case lengthFault => cases herr
  case crc16Bit => simp [SameT16]
  case crc16Tbl => simp +contextual [SameT16]
  case t16Build => simp
  all_goals simp at hi

/-! ### The result of a length-bounded command -/

/-- With valid tables the lazy build leaves the constant T16, whether it builds or not (40_crc16.md
R97). -/
theorem TablesValid.lazyBuild16_t16 {s : State} (hv : TablesValid s) : s.lazyBuild16.t16 = table16 := by
  cases hf : s.t16v with
  | false => simp [hf]
  | true => simp [hf, eq_table16 (hv.1 hf)]

/-- The same of T32 (43_crc32_table.md R145). -/
theorem TablesValid.lazyBuild32_t32 {s : State} (hv : TablesValid s) : s.lazyBuild32.t32 = table32 := by
  cases hf : s.t32v with
  | false => simp [hf]
  | true => simp [hf, eq_table32 (hv.2 hf)]

/-- The value a length-bounded command returns for the bytes `bs`; any other command has none. -/
def lengthResult (i : Instr) (bs : List Byte) : Word :=
  match i with
  | .crc16Bit => (crc16Reg bs).setWidth 32
  | .crc16Tbl => (crc16TblReg table16 bs).setWidth 32
  | .crc32Ref => finalReflected (crc32RefReg bs)
  | .crc32Tbl => finalStandard (crc32TblReg table32 bs)
  | .crc32Std => finalStandard (crc32StdReg bs)
  | _ => 0#32

/-- With valid tables and LEN within CAP, a length-bounded command returns its value for the first LEN
bytes. -/
theorem exec_completedWith_lengthResult {i : Instr} {s : State} (hi : Instr.lengthBounded i = true)
    (hv : TablesValid s) (hl : s.len.toNat ≤ s.cap.toNat) :
    ∃ t, exec i s = .next t ∧ CompletedWith (lengthResult i (s.msgBytes s.len.toNat)) t := by
  have hva : TablesValid s.accept := hv
  obtain ⟨t, h, hend⟩ := exec_commandEnd i s
  refine ⟨t, h, ?_⟩
  cases hend
  case lengthFault hlt => omega
  case crc16Bit => simp [CompletedWith, lengthResult]
  case crc16Tbl => simp [CompletedWith, lengthResult, hva.lazyBuild16_t16, -State.lazyBuild16_t16]
  case crc32Ref => simp [CompletedWith, lengthResult]
  case crc32Tbl => simp [CompletedWith, lengthResult, hva.lazyBuild32_t32, -State.lazyBuild32_t32]
  case crc32Std => simp [CompletedWith, lengthResult]
  all_goals cases hi

/-- Both CRC-16 engines return one value: their loops take the same step for each byte (40_crc16.md
R96). -/
theorem lengthResult_crc16Tbl (bs : List Byte) : lengthResult .crc16Tbl bs = lengthResult .crc16Bit bs := by
  have hstep : step16t table16 = byte16 := funext fun r => funext (step16t_table16 r)
  rw [lengthResult, lengthResult, crc16TblReg, crc16Reg, hstep]

/-- Settles O33: each engine returns its value for the same bytes, and the two values are one. -/
theorem crc16EnginesAgree : Obligations.Crc16EnginesAgree := by
  intro s hv hl
  obtain ⟨t, ht, hrt⟩ := exec_completedWith_lengthResult (i := .crc16Bit) rfl hv hl
  obtain ⟨u, hu, hru⟩ := exec_completedWith_lengthResult (i := .crc16Tbl) rfl hv hl
  exact ⟨_, t, u, ht, hu, hrt, lengthResult_crc16Tbl _ ▸ hru⟩

/-- Settles O38: the value is one function of the first LEN bytes. -/
theorem resultDependsOnTheMessageAlone : Obligations.ResultDependsOnTheMessageAlone := by
  intro i s t hi hvs hvt hlen hs ht hmsg
  obtain ⟨s', hs', hrs⟩ := exec_completedWith_lengthResult hi hvs hs
  obtain ⟨t', ht', hrt⟩ := exec_completedWith_lengthResult hi hvt ht
  have hbytes : s.msgBytes s.len.toNat = t.msgBytes t.len.toNat := hlen ▸ State.msgBytes_congr hmsg
  exact ⟨_, s', t', hs', ht', hrs, hbytes ▸ hrt⟩

end Sys2Proof.Machine
end

section
namespace Sys2Proof.Machine

/-! ### The laws of the reversals -/

theorem rev8_getLsbD_of_lt (v : Byte) (i : Nat) (hi : i < 8) :
    (rev8 v).getLsbD i = v.getLsbD (7 - i) := by
  rw [rev8_getLsbD, decide_eq_true hi, Bool.true_and]

theorem rev32_getLsbD_of_lt (v : Word) (i : Nat) (hi : i < 32) :
    (rev32 v).getLsbD i = v.getLsbD (31 - i) := by
  rw [rev32_getLsbD, decide_eq_true hi, Bool.true_and]

theorem rev8_rev8 (v : Byte) : rev8 (rev8 v) = v := BitVec.reverse_reverse_eq

theorem rev32_rev32 (v : Word) : rev32 (rev32 v) = v := BitVec.reverse_reverse_eq

theorem rev8_xor (a b : Byte) : rev8 (a ^^^ b) = rev8 a ^^^ rev8 b := by
  ext i hi
  simp

theorem rev8_not (a : Byte) : rev8 (~~~a) = ~~~(rev8 a) := by
  ext i hi
  simp

theorem rev32_not (a : Word) : rev32 (~~~a) = ~~~(rev32 a) := by
  ext i hi
  simp

/-- The right shift is the left shift seen through the reversal, which is its own inverse. -/
theorem rev32_ushiftRight_one (v : Word) : rev32 (v >>> 1) = rev32 v <<< 1 :=
  calc rev32 (v >>> 1)
    _ = rev32 (rev32 (rev32 v) >>> 1) := by rw [rev32_rev32]
    _ = rev32 (rev32 (rev32 v <<< 1)) := by rw [rev32_shiftLeft_one]
    _ = rev32 v <<< 1 := rev32_rev32 _

/-- Byte placement (41_bitrev.md R114 (d)): bit `i` of either side is bit `31 - i` of the byte, which has
none from 8 up. -/
theorem rev32_setWidth (b : Byte) : rev32 (b.setWidth 32) = (rev8 b).setWidth 32 <<< 24 := by
  apply BitVec.eq_of_getLsbD_eq
  intro i hi
  by_cases h : i < 24
  · simp [h, BitVec.getLsbD_of_ge b (31 - i) (by omega)]
  · have hmirror : 7 - (i - 24) = 31 - i := by omega
    simp [hi, h, hmirror, show i - 24 < 8 by omega, show 31 - i < 8 by omega]

/-- Bytewise form (41_bitrev.md R114 (e)): the byte at bit `k` is reversed and goes to the mirrored
place. -/
theorem rev32_extractLsb'_byte {k : Nat} (hk : k ≤ 24) (v : Word) :
    (rev32 v).extractLsb' (24 - k) 8 = rev8 (v.extractLsb' k 8) := by
  apply BitVec.eq_of_getLsbD_eq
  intro i hi
  have hmirror : 31 - (24 - k + i) = k + (7 - i) := by omega
  simp [hi, hmirror, show 24 - k + i < 32 by omega, show k + (7 - i) < 32 by omega]

/-- Settles O28: the bits, the laws of each function, and the bytewise form at the four places. -/
theorem reversalLaws : Obligations.ReversalLaws :=
  ⟨rev8_getLsbD_of_lt, rev32_getLsbD_of_lt, rev8_rev8, rev32_rev32,
    Function.Involutive.bijective rev8_rev8, Function.Involutive.bijective rev32_rev32, rev8_xor, rev8_not,
    rev32_xor, rev32_not, rev32_shiftLeft_one, rev32_ushiftRight_one, rev32_setWidth,
    fun v => ⟨rev32_extractLsb'_byte (k := 0) (by decide) v, rev32_extractLsb'_byte (k := 8) (by decide) v,
      rev32_extractLsb'_byte (k := 16) (by decide) v, rev32_extractLsb'_byte (k := 24) (by decide) v⟩⟩

/-! ### REV8 and REV32 -/

/-- Acceptance and completion with a value write RES, STAT, the issue and the latches only (10_state.md
R30, R35). -/
theorem accept_completeWith_frame (s : State) (v : Word) :
    SameWorking s (s.accept.completeWith v) ∧ SameT16 s (s.accept.completeWith v) ∧
      SameT32 s (s.accept.completeWith v) := by
  simp [SameWorking, SameT16, SameT32]

theorem accept_completeWith_completedWith (s : State) (v : Word) :
    CompletedWith v (s.accept.completeWith v) := by
  simp [CompletedWith]

/-- The reversal commands have one end: completion with a value, with no check before it (41_bitrev.md
R112, R113). -/
theorem exec_reversal {i : Instr} (hi : i = .rev8 ∨ i = .rev32) (s : State) :
    ∃ v, exec i s = .next (s.accept.completeWith v) := by
  rcases hi with rfl | rfl
  · exact ⟨_, rfl⟩
  · exact ⟨_, rfl⟩

/-- Settles O19: RES is the reversal of the sampled low byte, zero extended. -/
theorem rev8ReversesTheLowByteOfArg : Obligations.Rev8ReversesTheLowByteOfArg := by
  refine ⟨decode_encode .rev8, fun s => ⟨s.accept.finishRev8, rfl, accept_completeWith_completedWith s _,
    fun i hi => ?_, fun i hi => ?_, accept_completeWith_frame s _⟩⟩
  · simp [State.argByte, hi, show i < 32 by omega]
  · simp [hi]

/-- Settles O20: RES is the reversal of the sampled word. -/
theorem rev32ReversesArg : Obligations.Rev32ReversesArg :=
  ⟨decode_encode .rev32, fun s => ⟨s.accept.finishRev32, rfl, accept_completeWith_completedWith s _,
    rev32_getLsbD_of_lt s.arg, accept_completeWith_frame s _⟩⟩

/-- Settles O44: the one end of both commands is a completion. -/
theorem frameOfReversals : Obligations.FrameOfReversals := by
  intro i s t hi h
  have hsur := (commandEnd_of_exec h).sameSurroundings
  obtain ⟨v, hv⟩ := exec_reversal hi s
  cases hv.symm.trans h
  obtain ⟨hwork, h16, h32⟩ := accept_completeWith_frame s v
  exact ⟨hsur, .of_msg_eq hsur.1, h16, h32, hwork, rfl⟩

end Sys2Proof.Machine
end

section
namespace Sys2Proof.Machine

/-! ### The placed byte -/

/-- Placing a byte is reversing it as a word (42_crc32_bit.md R121). -/
theorem place_eq_rev32 (b : Byte) : place b = rev32 (b.setWidth 32) := (rev32_setWidth b).symm

theorem place_getLsbD_top (b : Byte) (i : Nat) (hi : i < 8) :
    (place b).getLsbD (31 - i) = b.getLsbD i := by
  have hmirror : 31 - (31 - i) = i := by omega
  rw [place_eq_rev32, rev32_getLsbD_of_lt _ _ (by omega), hmirror]
  simp [hi, show i < 32 by omega]

theorem place_getLsbD_low (b : Byte) (i : Nat) (hi : i < 24) : (place b).getLsbD i = false := by
  simp [place, hi]

/-- Settles O29: the bits of the reversed byte, and the byte placement law of the reversals. -/
theorem placePutsTheReversedByteOnTop : Obligations.PlacePutsTheReversedByteOnTop := fun b =>
  ⟨rfl, place_eq_rev32 b, place_getLsbD_top b, place_getLsbD_low b⟩

/-! ### The null-terminated engine against the standard form -/

/-- The XOR of register and shift word, on which CRC32.NT's round takes its decision (42_crc32_bit.md
R123). -/
def ntSum (p : Word × Word) : Word := p.1 ^^^ p.2

/-- A round of CRC32.NT is a standard-form round of that XOR (42_crc32_bit.md R123). -/
theorem ntSum_roundnt (p : Word × Word) : ntSum (roundnt p) = round32s (ntSum p) := by
  simp only [ntSum, roundnt, round32s, BitVec.shiftLeft_xor_distrib]
  cases (p.1 ^^^ p.2).getLsbD 31 with
  | false => rfl
  | true => simp only [if_true, BitVec.xor_assoc, BitVec.xor_comm poly32]

theorem ntSum_roundnt_iterate (n : Nat) (p : Word × Word) :
    ntSum (roundnt^[n] p) = round32s^[n] (ntSum p) :=
  Function.Semiconj.iterate_right ntSum_roundnt n p

/-- A byte of CRC32.NT is a byte of CRC32.STD, as the shift word ends at 0 (42_crc32_bit.md R123). -/
theorem byteNt_eq (p : Word × Word) (b : Byte) : byteNt p b = (byte32s p.1 b, 0#32) := by
  have hsnd := byteNt_snd p b
  have hsum : ntSum (byteNt p b) = byte32s p.1 b := ntSum_roundnt_iterate 8 (p.1, place b)
  rw [ntSum, hsnd, BitVec.xor_zero] at hsum
  exact Prod.ext hsum hsnd

/-- Settles O30: the round is its definition, its XOR is a standard-form round, and eight rounds are the
byte. -/
theorem nullTerminatedRoundIsTheStandardRound : Obligations.NullTerminatedRoundIsTheStandardRound :=
  ⟨fun _ _ => rfl, fun r w => ntSum_roundnt (r, w), fun r b => byteNt_eq (r, 0#32) b⟩

/-- Over the same bytes both engines hold the same register (42_crc32_bit.md R125). -/
theorem crc32NtReg_fst_eq_crc32StdReg (b32 : Word) (bs : List Byte) :
    (crc32NtReg b32 bs).1 = crc32StdReg bs :=
  (List.foldl_hom Prod.fst fun p b => (congrArg Prod.fst (byteNt_eq p b)).symm).symm

/-! ### The reflected engine against the standard form -/

theorem rev32_round32s_iterate (n : Nat) (r : Word) :
    rev32 (round32s^[n] r) = round32r^[n] (rev32 r) :=
  Function.Semiconj.iterate_right rev32_round32s n r

/-- A byte of CRC32.STD is a byte of CRC32.REF seen through the reversal: the placed byte is the low byte
there (42_crc32_bit.md R129). -/
theorem rev32_byte32s (r : Word) (b : Byte) : rev32 (byte32s r b) = byte32r (rev32 r) b := by
  rw [byte32s, byte32r, absorb32s, absorb32r, rev32_round32s_iterate, rev32_xor, place_eq_rev32,
    rev32_rev32]

/-- All ones are all ones from either end. -/
theorem rev32_init32 : rev32 init32 = init32 := by decide +kernel

/-- Over the same bytes the registers of the two engines mirror one another. -/
theorem crc32RefReg_eq_rev32 (bs : List Byte) : crc32RefReg bs = rev32 (crc32StdReg bs) := by
  have h : bs.foldl byte32r (rev32 init32) = rev32 (bs.foldl byte32s init32) :=
    List.foldl_hom rev32 fun r b => (rev32_byte32s r b).symm
  rwa [rev32_init32] at h

theorem lengthResult_crc32Ref (bs : List Byte) :
    lengthResult .crc32Ref bs = lengthResult .crc32Std bs := by
  rw [lengthResult, lengthResult, finalReflected, finalStandard, crc32RefReg_eq_rev32, rev32_not]

/-! ### One lookup in T32 -/

/-- While only zeros are shifted out, standard-form rounds are plain shifts (43_crc32_table.md R142). -/
theorem round32s_iterate_of_zeros {n : Nat} {r : Word}
    (h : ∀ k, k < n → r.getLsbD (31 - k) = false) : round32s^[n] r = r <<< n := by
  induction n with
  | zero => simp
  | succ n ih =>
    have htop : (r <<< n).getLsbD 31 = false := by
      rw [BitVec.getLsbD_shiftLeft, h n (Nat.lt_succ_self n), Bool.and_false]
    rw [Function.iterate_succ_apply', ih (fun k hk => h k (by omega)), round32s, htop,
      BitVec.shiftLeft_add]
    rfl

/-- A word is its low 24 bits and its high byte. -/
theorem eq_low_xor_high (x : Word) : x = (x <<< 8 >>> 8) ^^^ (x >>> 24 <<< 24) := by
  apply BitVec.eq_of_getLsbD_eq
  intro k hk
  by_cases h : k < 24
  · simp [h, hk, show 8 + k < 32 by omega]
  · simp [h, hk, show ¬8 + k < 32 by omega, show 24 + (k - 24) = k by omega]

theorem round32s_iterate_low (x : Word) : round32s^[8] (x <<< 8 >>> 8) = x <<< 8 := by
  rw [round32s_iterate_of_zeros fun k hk => by simp [show ¬8 + (31 - k) < 32 by omega]]
  apply BitVec.eq_of_getLsbD_eq
  intro k hk
  by_cases h : k < 8
  · simp [h]
  · simp [h, hk, show 8 + (k - 8) = k by omega]

/-- The shift by a byte drops the placed byte (43_crc32_table.md R142). -/
theorem xor_place_shiftLeft (r : Word) (b : Byte) : (r ^^^ place b) <<< 8 = r <<< 8 := by
  have hdrop : place b <<< 8 = 0#32 := by
    rw [place, ← BitVec.shiftLeft_add]
    exact BitVec.shiftLeft_eq_zero le_rfl
  rw [BitVec.shiftLeft_xor_distrib, hdrop, BitVec.xor_zero]

/-- One lookup in the valid T32 does what absorbing the byte and eight rounds do (43_crc32_table.md R142):
the rounds of the low 24 bits are shifts, those of the high byte are the entry. -/
theorem step32t_table32 (r : Word) (b : Byte) : step32t table32 r b = byte32s r b := by
  have hx : (index32 r b).toNat < 256 := (index32 r b).isLt
  calc step32t table32 r b
    _ = (r <<< 8) ^^^ round32s^[8] ((r ^^^ place b) >>> 24 <<< 24) := by
      rw [step32t, table32_getElem _ hx, entry32_eq hx, BitVec.ofNat_toNat, index32_setWidth]
    _ = round32s^[8] ((r ^^^ place b) <<< 8 >>> 8) ^^^ round32s^[8] ((r ^^^ place b) >>> 24 <<< 24) := by
      rw [round32s_iterate_low, xor_place_shiftLeft]
    _ = byte32s r b := by
      rw [← iterate_xor round32s_xor, ← eq_low_xor_high, byte32s, absorb32s]

theorem lengthResult_crc32Tbl (bs : List Byte) :
    lengthResult .crc32Tbl bs = lengthResult .crc32Std bs := by
  have hstep : step32t table32 = byte32s := funext fun r => funext (step32t_table32 r)
  rw [lengthResult, lengthResult, crc32TblReg, crc32StdReg, hstep]

end Sys2Proof.Machine
end

section
namespace Sys2Proof.Machine

/-! ### The CRC-32 bit engines -/

/-- Settles O22: the register after `k` bytes is that of the loop over the first `k` bytes. -/
theorem crc32StdRunsTheStandardLoop : Obligations.Crc32StdRunsTheStandardLoop := by
  refine ⟨decode_encode .crc32Std, fun s hl => ?_,
    fun s hl => ⟨_, exec_of_lt rfl hl, faulted_accept_raiseFault s _⟩⟩
  refine ⟨fun k => crc32StdReg (s.msgBytes k), _, exec_crc32Std_of_le hl, rfl,
    fun k _ => State.foldl_msgBytes_succ byte32s init32 s k, ?_⟩
  simp [CompletedWith, SameT16, SameT32, finalStandard]

/-- Settles O23, in the same way. -/
theorem crc32RefRunsTheReflectedLoop : Obligations.Crc32RefRunsTheReflectedLoop := by
  refine ⟨decode_encode .crc32Ref, fun s hl => ?_,
    fun s hl => ⟨_, exec_of_lt rfl hl, faulted_accept_raiseFault s _⟩⟩
  refine ⟨fun k => crc32RefReg (s.msgBytes k), _, exec_crc32Ref_of_le hl, rfl,
    fun k _ => State.foldl_msgBytes_succ byte32r init32 s k, ?_⟩
  simp [CompletedWith, SameT16, SameT32, finalReflected]

/-- Settles O21: the register after `k` bytes is that of the loop over the first `k` bytes, up to the
first 0x00. -/
theorem crc32NtRunsToTheTerminator : Obligations.Crc32NtRunsToTheTerminator := by
  refine ⟨decode_encode .crc32Nt, fun s z hz => ?_,
    fun s hn => ⟨_, exec_crc32Nt_of_noNul hn, faulted_accept_raiseFault s _⟩⟩
  refine ⟨fun k => (crc32NtReg s.b32 (s.msgBytes k)).1, _, exec_crc32Nt_of_firstNul hz, rfl,
    fun k _ => congrArg Prod.fst (State.foldl_msgBytes_succ byteNt (init32, s.b32) s k), ?_⟩
  simp [CompletedWith, SameT16, SameT32, finalStandard]

/-! ### Agreement of the engines -/

section
variable {s : State}

/-- With valid tables and LEN within CAP the three length-bounded engines return the value of CRC32.STD for
the first LEN bytes (42_crc32_bit.md R129, 43_crc32_table.md R144). -/
theorem exec_crc32_completedWith (hv : TablesValid s) (hl : s.len.toNat ≤ s.cap.toNat) :
    ∃ t u w : State,
      exec .crc32Std s = .next t ∧ exec .crc32Ref s = .next u ∧ exec .crc32Tbl s = .next w ∧
        CompletedWith (lengthResult .crc32Std (s.msgBytes s.len.toNat)) t ∧
        CompletedWith (lengthResult .crc32Std (s.msgBytes s.len.toNat)) u ∧
        CompletedWith (lengthResult .crc32Std (s.msgBytes s.len.toNat)) w := by
  obtain ⟨t, ht, hrt⟩ := exec_completedWith_lengthResult (i := .crc32Std) rfl hv hl
  obtain ⟨u, hu, hru⟩ := exec_completedWith_lengthResult (i := .crc32Ref) rfl hv hl
  obtain ⟨w, hw, hrw⟩ := exec_completedWith_lengthResult (i := .crc32Tbl) rfl hv hl
  exact ⟨t, u, w, ht, hu, hw, hrt, lengthResult_crc32Ref _ ▸ hru, lengthResult_crc32Tbl _ ▸ hrw⟩

/-- CRC32.STD needs no valid table for its value. -/
theorem exec_crc32Std_completedWith (hl : s.len.toNat ≤ s.cap.toNat) :
    ∃ t, exec .crc32Std s = .next t ∧
      CompletedWith (lengthResult .crc32Std (s.msgBytes s.len.toNat)) t := by
  refine ⟨_, exec_crc32Std_of_le hl, ?_⟩
  simp [CompletedWith, lengthResult]

/-- CRC32.NT returns the value of CRC32.STD for the bytes before the first 0x00 (42_crc32_bit.md R125). -/
theorem exec_crc32Nt_completedWith {z : Nat} (hz : FirstNul s z) :
    ∃ t, exec .crc32Nt s = .next t ∧ CompletedWith (lengthResult .crc32Std (s.msgBytes z)) t := by
  refine ⟨_, exec_crc32Nt_of_firstNul hz, ?_⟩
  simp [CompletedWith, lengthResult, crc32NtReg_fst_eq_crc32StdReg]

end

/-- Settles O34: the three values are one. -/
theorem crc32EnginesAgree : Obligations.Crc32EnginesAgree := fun _ hv hl =>
  ⟨_, exec_crc32_completedWith hv hl⟩

/-- Settles O35: `z` is below CAP, so it is LEN itself, and both engines return the value for the same
bytes. -/
theorem nullTerminatedAgreesWithStandard : Obligations.NullTerminatedAgreesWithStandard := by
  intro s z hz
  have hlt : z < s.cap.toNat := hz.1
  have hlen : (BitVec.ofNat 32 z).toNat = z := Nat.mod_eq_of_lt (hlt.trans s.cap.isLt)
  obtain ⟨t, ht, hrt⟩ := exec_crc32Nt_completedWith hz
  obtain ⟨u, hu, hru⟩ := exec_crc32Std_completedWith (s := { s with len := BitVec.ofNat 32 z })
    (hlen.trans_le hlt.le)
  rw [hlen] at hru
  exact ⟨_, t, u, ht, hu, hrt, hru⟩

/-- The check string "123456789" (42_crc32_bit.md R127). -/
def checkString : List Byte :=
  [0x31#8, 0x32#8, 0x33#8, 0x34#8, 0x35#8, 0x36#8, 0x37#8, 0x38#8, 0x39#8]

theorem lengthResult_checkString : lengthResult .crc32Std checkString = 0xCBF43926#32 := by
  decide +kernel

/-- Settles O36: the one value of the three engines, computed for the check string. -/
theorem crc32CheckValue : Obligations.Crc32CheckValue := by
  intro s hv hlen hcap hmsg
  have hn : s.len.toNat = 9 := by rw [hlen]; rfl
  have h := exec_crc32_completedWith hv (hn.trans_le hcap)
  rwa [hn, hmsg, ← checkString, lengthResult_checkString] at h

/-! ### What CRC32.NT depends on -/

theorem FirstNul.of_agree {s t : State} {z : Nat} (hz : FirstNul s z) (hcap : z < t.cap.toNat)
    (hmsg : ∀ a, a ≤ z → s.msgByte a = t.msgByte a) : FirstNul t z := by
  obtain ⟨-, h0, hn⟩ := hz
  exact ⟨hcap, hmsg z le_rfl ▸ h0, fun a ha => hmsg a ha.le ▸ hn a ha⟩

/-- Settles O39: both states have the same bytes before the same first 0x00. -/
theorem nullTerminatedResultDependsOnTheStringAlone :
    Obligations.NullTerminatedResultDependsOnTheStringAlone := by
  intro s t z hz hcap hmsg
  obtain ⟨s', hs', hrs⟩ := exec_crc32Nt_completedWith hz
  obtain ⟨t', ht', hrt⟩ := exec_crc32Nt_completedWith (hz.of_agree hcap hmsg)
  have hbytes : s.msgBytes z = t.msgBytes z := State.msgBytes_congr fun a ha => hmsg a ha.le
  exact ⟨_, s', t', hs', ht', hrs, hbytes ▸ hrt⟩

/-! ### The frame of the CRC-32 commands -/

/-- Settles O43: the common part holds of every end, the rest goes end by end; a faulting one has ERR not
0. -/
theorem frameOfCrc32Commands : Obligations.FrameOfCrc32Commands := by
  intro i s t hi h
  have hend := commandEnd_of_exec h
  have hsur := hend.sameSurroundings
  have hT16 : SameT16 s t := by
    rcases hend.keptOrBuilt16 with hk | ⟨rfl | rfl, -⟩
    · exact hk
    · simp at hi
    · simp at hi
  refine ⟨hsur, .of_msg_eq hsur.1, hT16, fun herr => ?_⟩
  cases hend
  case lengthFault => cases herr
  case terminatorFault => cases herr
  case crc32Tbl => simp +contextual [SameT32]
  case t32Build => simp
  case crc32Ref => simp [SameT32]
  case crc32Std => simp [SameT32]
  case crc32Nt => simp [SameT32]
  all_goals simp at hi

end Sys2Proof.Machine
end

section
namespace Sys2Proof.Machine

/-! ### The CRC-32 table engine -/

/-- Entry by entry, the constant T32 as the rule gives it (43_crc32_table.md R140). -/
theorem table32_getElem_eq_rounds (i : Nat) (hi : i < 256) :
    table32[i] = round32s^[8] (BitVec.ofNat 32 i <<< 24) := by
  rw [table32_getElem i hi, entry32_eq hi]

/-- One lookup, with its index as the byte whose zero extension the rule gives (43_crc32_table.md R142). -/
theorem step32t_eq_lookup (t : Table32) (r : Word) (b : Byte) :
    ∃ x : Byte, x.setWidth 32 = (r ^^^ place b) >>> 24 ∧ step32t t r b = (r <<< 8) ^^^ t[x.toNat] :=
  ⟨index32 r b, index32_setWidth r b, rfl⟩

/-- Settles O32: a valid table is the constant one, and the shift by a byte drops the placed byte. -/
theorem lookupInT32IsEightRounds : Obligations.LookupInT32IsEightRounds := by
  intro t r b ht
  have htab : t = table32 := eq_table32 fun i hi => (ht i hi).trans (entry32_eq hi).symm
  obtain ⟨x, hx, hstep⟩ := step32t_eq_lookup t r b
  exact ⟨htab ▸ step32t_table32 r b, x, hx, hstep, (xor_place_shiftLeft r b).symm ▸ hstep⟩

/-- Settles O24: a full build leaves the constant T32, whatever was there. -/
theorem t32BuildWritesEveryEntry : Obligations.T32BuildWritesEveryEntry :=
  ⟨decode_encode .t32Build, fun s => ⟨_, rfl, table32_getElem_eq_rounds, rfl, by simp [CompletedSilently],
    by simp [SameT16]⟩⟩

/-- The register after one byte more is one lookup further (43_crc32_table.md R143). -/
theorem crc32TblReg_msgBytes_succ (t : Table32) (s : State) (k : Nat) :
    ∃ x : Byte, x.setWidth 32 = (crc32TblReg t (s.msgBytes k) ^^^ place (s.msgByte k)) >>> 24 ∧
      crc32TblReg t (s.msgBytes (k + 1)) = (crc32TblReg t (s.msgBytes k) <<< 8) ^^^ t[x.toNat] := by
  have hsucc : crc32TblReg t (s.msgBytes (k + 1)) = step32t t (crc32TblReg t (s.msgBytes k)) (s.msgByte k) :=
    State.foldl_msgBytes_succ (step32t t) init32 s k
  exact hsucc ▸ step32t_eq_lookup t _ _

/-- Settles O25: the register after `k` bytes is that of the lookups for the first `k` bytes, in the table
as the lazy build leaves it. -/
theorem crc32TblLooksUpEachByte : Obligations.Crc32TblLooksUpEachByte := by
  refine ⟨decode_encode .crc32Tbl, fun s hl => ?_,
    fun s hl => ⟨_, exec_of_lt rfl hl, faulted_accept_raiseFault s _⟩⟩
  refine ⟨fun k => crc32TblReg s.accept.lazyBuild32.t32 (s.msgBytes k), _, exec_crc32Tbl_of_le hl,
    by simp, fun hv => by simp [hv], fun hv => ?_, rfl,
    fun k _ => crc32TblReg_msgBytes_succ s.accept.lazyBuild32.t32 s k, ?_⟩
  · simpa [hv] using fun i hi => entry32_eq hi
  · simp [CompletedWith, SameT16, finalStandard]

end Sys2Proof.Machine
end

section
namespace Sys2Proof.Machine

/-! ### How a command can fault -/

section
variable {i : Instr} {s t : State}

/-- The two faults a command can end in, each with the command and the check that raises it
(60_exceptions.md R155, R157, R158); every other end has ERR = 0. -/
theorem CommandEnd.err_eq_zero_or_faulted (h : CommandEnd s i t) :
    t.err = 0#2 ∨
      (Instr.lengthBounded i = true ∧ s.cap.toNat < s.len.toNat ∧ Faulted .lengthExceedsBuffer s t) ∨
      (i = .crc32Nt ∧ NoNulBelow s s.cap.toNat ∧ Faulted .missingTerminator s t) := by
  cases h
  case lengthFault hl hi => exact .inr (.inl ⟨hi, hl, faulted_accept_raiseFault s _⟩)
  case terminatorFault hn => exact .inr (.inr ⟨rfl, hn, faulted_accept_raiseFault s _⟩)
  all_goals exact .inl (by simp)

/-- With LEN within CAP, 0 and CAP among them, a length-bounded command completes with a value, valid
tables or not. -/
theorem CommandEnd.completedWith_of_le (h : CommandEnd s i t) (hi : Instr.lengthBounded i = true)
    (hl : s.len.toNat ≤ s.cap.toNat) : CompletedWith t.res t := by
  cases h
  case lengthFault hlt _ => omega
  case crc16Bit | crc16Tbl | crc32Ref | crc32Tbl | crc32Std => simp [CompletedWith]
  all_goals cases hi

/-- A command sees the state it is issued in only as acceptance leaves it. -/
theorem exec_congr_accept (h : s.accept = t.accept) : exec i s = exec i t := by
  cases i <;>
    simp only [exec, execCrc16Bit, execCrc16Tbl, execT16Build, execRev8, execCrc32Ref, execCrc32Tbl,
      execT32Build, execRev32, execCrc32Std, execCrc32Nt, h]

end

/-- Settles O12: the end is one of the two faulting ones, each of which its own command raises. -/
theorem faultChangesOnlyTheErrorCode : Obligations.FaultChangesOnlyTheErrorCode := by
  intro i s t h herr
  obtain ⟨f, hf, hcode⟩ : ∃ f, Faulted f s t ∧
      ((Instr.lengthBounded i = true ∧ t.err = 2#2) ∨ (i = .crc32Nt ∧ t.err = 3#2)) := by
    rcases (commandEnd_of_exec h).err_eq_zero_or_faulted with h0 | ⟨hi, -, hf⟩ | ⟨hi, -, hf⟩
    · exact absurd h0 herr
    · exact ⟨_, hf, .inl ⟨hi, hf.1⟩⟩
    · exact ⟨_, hf, .inr ⟨hi, hf.1⟩⟩
  obtain ⟨-, hbusy, hrv, hres, hT16, hT32, hsur⟩ := hf
  exact ⟨hbusy, hrv, hres, hT16, hT32, hsur, .of_msg_eq hsur.1, hcode⟩

/-- Settles O13: the faulting outcome reads no message byte, so another message goes through it
unchanged. -/
theorem capacityIsCheckedFirst : Obligations.CapacityIsCheckedFirst := by
  intro i s hi
  refine ⟨fun hl => ⟨_, exec_of_lt hi hl, faulted_accept_raiseFault s _, rfl, fun m => ?_⟩, fun hl => ?_⟩
  · exact exec_of_lt (s := { s with msg := m }) hi hl
  · obtain ⟨t, h, hend⟩ := exec_commandEnd i s
    exact ⟨t, h, hend.completedWith_of_le hi hl⟩

/-- Settles O14: CRC32.NT is not length-bounded, so the scan is the one check it can fail. -/
theorem missingTerminatorFaults : Obligations.MissingTerminatorFaults := by
  refine fun s => ⟨fun hn => ⟨_, exec_crc32Nt_of_noNul hn, faulted_accept_raiseFault s _, rfl⟩,
    fun t h herr => ?_⟩
  rcases (commandEnd_of_exec h).err_eq_zero_or_faulted with h0 | ⟨hi, -, -⟩ | ⟨-, hn, -⟩
  · cases h0.symm.trans herr
  · cases hi
  · exact hn

/-! ### Between commands -/

/-- Settles O9: with BUSY = 0 and nothing presented, both grains take their last branch. -/
theorem idleBlockKeepsEverything : Obligations.IdleBlockKeepsEverything := by
  intro s hb hp
  exact ⟨by simp [step, hb, hp], by simp [seqStep, hb, hp]⟩

/-- Settles O15: acceptance clears ERR and RV, whatever they were. -/
theorem earlierOutcomeHasNoEffect : Obligations.EarlierOutcomeHasNoEffect := fun _ _ _ _ =>
  exec_congr_accept rfl

end Sys2Proof.Machine
end

section
namespace Sys2Proof.Machine

/-! ### Reset -/

/-- Settles O53: nothing is listed, no flag is set and nothing runs. -/
theorem resetMeetsInvariant : Obligations.ResetMeetsInvariant := reset_inv

/-- Settles O51: every field of STAT is 0, RV among them. -/
theorem powerOnStatusIsZero : Obligations.PowerOnStatusIsZero := ⟨rfl, readRes_of_not_rv rfl, rfl⟩

theorem readStat_applyReset (s : State) : readStat s.applyReset = readStat State.reset := rfl

/-- Settles O50: reset leaves the block idle, and an idle block runs what is presented. -/
theorem resetAbandonsTheRunningCommand : Obligations.ResetAbandonsTheRunningCommand := by
  intro s
  have hstat : readStat s.applyReset = 0x00#8 := (readStat_applyReset s).trans powerOnStatusIsZero.1
  exact ⟨hstat, ⟨rfl, rfl, rfl, rfl, rfl⟩, fun c a n i hd =>
    stepRunsThePresentedCommand (s.applyReset.issue c a n) i rfl rfl hd⟩

end Sys2Proof.Machine
end

section
namespace Sys2Proof.Machine

/-! ### The running command comes nearer to its end -/

section
variable {i : Instr} {s t : State}

/-- An upper bound on the sequencing steps left, by the loop at work and where its counters stand: eight
rounds for each table entry left, nine steps for each byte left below CAP, and one to end. -/
def State.stepsLeft (s : State) : Nat :=
  match s.phase with
  | .start => 2050 + 9 * s.cap.toNat
  | .fill => 8 * (256 - s.tidx.toNat) - s.rnd.toNat + (1 + 9 * s.cap.toNat)
  | .bytes => 1 + 9 * (s.cap.toNat - s.idx.toNat)
  | .rounds => 9 * (s.cap.toNat - s.idx.toNat) - s.rnd.toNat

theorem stepsLeft_of_start (h : s.phase = .start) : s.stepsLeft = 2050 + 9 * s.cap.toNat := by
  rw [State.stepsLeft, h]

theorem stepsLeft_of_fill (h : s.phase = .fill) :
    s.stepsLeft = 8 * (256 - s.tidx.toNat) - s.rnd.toNat + (1 + 9 * s.cap.toNat) := by
  rw [State.stepsLeft, h]

theorem stepsLeft_of_bytes (h : s.phase = .bytes) :
    s.stepsLeft = 1 + 9 * (s.cap.toNat - s.idx.toNat) := by
  rw [State.stepsLeft, h]

theorem stepsLeft_of_rounds (h : s.phase = .rounds) :
    s.stepsLeft = 9 * (s.cap.toNat - s.idx.toNat) - s.rnd.toNat := by
  rw [State.stepsLeft, h]

theorem stepsLeft_lt_tickBound (s : State) : s.stepsLeft < s.tickBound := by
  unfold State.tickBound
  cases h : s.phase with
  | start => rw [stepsLeft_of_start h]; omega
  | fill => rw [stepsLeft_of_fill h]; omega
  | bytes => rw [stepsLeft_of_bytes h]; omega
  | rounds => rw [stepsLeft_of_rounds h]; omega

/-- After the step from `s` to `t` the command has ended, or has fewer steps left. -/
def Descends (s t : State) : Prop := t.busy = true → t.stepsLeft < s.stepsLeft

theorem Descends.of_idle (h : t.busy = false) : Descends s t := fun hb => nomatch h.symm.trans hb

theorem Descends.lengthChecked {body : State → State} (h : Descends s (body s)) :
    Descends s (lengthChecked s body) := by
  unfold Machine.lengthChecked
  split
  · exact h
  · exact .of_idle rfl

/-! ### The starts of the loops, and the steps of a table build -/

/-- Every build leaves room for the message loop after it. -/
theorem loop_lt_stepsLeft_of_fill (hph : s.phase = .fill) (hx : s.tidx.toNat < 256)
    (hr : s.rnd.toNat < 8) : 1 + 9 * s.cap.toNat < s.stepsLeft := by
  rw [stepsLeft_of_fill hph]
  omega

/-- So does the start of a command. -/
theorem loop_lt_stepsLeft_of_start (hph : s.phase = .start) : 1 + 9 * s.cap.toNat < s.stepsLeft := by
  rw [stepsLeft_of_start hph]
  omega

theorem Descends.startBytes (h : 1 + 9 * s.cap.toNat < s.stepsLeft) (hph : t.phase = .bytes)
    (hc : t.cap = s.cap) (hi : t.idx.toNat = 0) : Descends s t := fun _ => by
  rwa [stepsLeft_of_bytes hph, hc, hi]

theorem Descends.startFill (hph : s.phase = .start) (ht : t.phase = .fill) (hc : t.cap = s.cap)
    (hr : t.rnd.toNat = 0) (hx : t.tidx.toNat = 0) : Descends s t := fun _ => by
  rw [stepsLeft_of_start hph, stepsLeft_of_fill ht, hc, hr, hx]
  omega

theorem Descends.fillRound (hph : s.phase = .fill) (hx : s.tidx.toNat < 256) (hl : s.rnd.toNat + 1 < 8)
    (ht : t.phase = s.phase) (hc : t.cap = s.cap) (hr : t.rnd = s.rnd + 1) (hi : t.tidx = s.tidx) :
    Descends s t := fun _ => by
  rw [stepsLeft_of_fill hph, stepsLeft_of_fill (ht.trans hph), hc, hi, hr, rnd_succ (by omega)]
  omega

theorem Descends.fillEntry (hph : s.phase = .fill) (hx : s.tidx.toNat < 256) (hr : s.rnd.toNat < 8)
    (ht : t.phase = s.phase) (hc : t.cap = s.cap) (hr' : t.rnd.toNat = 0)
    (hi : t.tidx = s.tidx + 1) : Descends s t := fun _ => by
  rw [stepsLeft_of_fill hph, stepsLeft_of_fill (ht.trans hph), hc, hi, hr', tidx_succ hx]
  omega

theorem Descends.fillStep16 {done : State → State} (hph : s.phase = .fill) (hx : s.tidx.toNat < 256)
    (hr : s.rnd.toNat < 8) (hd : ∀ u : State, u.cap = s.cap → Descends s (done u)) :
    Descends s (s.fillStep16 done) := by
  simp only [State.fillStep16]
  split
  next hl => exact .fillRound hph hx hl rfl rfl rfl rfl
  next =>
    split
    · exact .fillEntry hph hx hr (by simp) (by simp) (by simp) (by simp)
    · exact hd _ (by simp)

theorem Descends.fillStep32 {done : State → State} (hph : s.phase = .fill) (hx : s.tidx.toNat < 256)
    (hr : s.rnd.toNat < 8) (hd : ∀ u : State, u.cap = s.cap → Descends s (done u)) :
    Descends s (s.fillStep32 done) := by
  simp only [State.fillStep32]
  split
  next hl => exact .fillRound hph hx hl rfl rfl rfl rfl
  next =>
    split
    · exact .fillEntry hph hx hr (by simp) (by simp) (by simp) (by simp)
    · exact hd _ (by simp)

/-! ### The steps of a message byte -/

theorem Descends.absorb (hph : s.phase = .bytes) (hlt : s.idx.toNat < s.cap.toNat)
    (ht : t.phase = .rounds) (hc : t.cap = s.cap) (hi : t.idx = s.idx) : Descends s t := fun _ => by
  rw [stepsLeft_of_bytes hph, stepsLeft_of_rounds ht, hc, hi]
  omega

theorem Descends.lookup (hph : s.phase = .bytes) (hlt : s.idx.toNat < s.cap.toNat)
    (ht : t.phase = s.phase) (hc : t.cap = s.cap) (hi : t.idx = s.idx + 1) : Descends s t := fun _ => by
  rw [stepsLeft_of_bytes hph, stepsLeft_of_bytes (ht.trans hph), hc, hi, idx_succ hlt le_rfl]
  omega

theorem Descends.round (hph : s.phase = .rounds) (hlt : s.idx.toNat < s.cap.toNat)
    (hl : s.rnd.toNat + 1 < 8) (ht : t.phase = s.phase) (hc : t.cap = s.cap) (hi : t.idx = s.idx)
    (hr : t.rnd = s.rnd + 1) : Descends s t := fun _ => by
  rw [stepsLeft_of_rounds hph, stepsLeft_of_rounds (ht.trans hph), hc, hi, hr, rnd_succ (by omega)]
  omega

theorem Descends.lastRound (hph : s.phase = .rounds) (hlt : s.idx.toNat < s.cap.toNat)
    (hr : s.rnd.toNat < 8) (ht : t.phase = .bytes) (hc : t.cap = s.cap) (hi : t.idx = s.idx + 1) :
    Descends s t := fun _ => by
  rw [stepsLeft_of_rounds hph, stepsLeft_of_bytes ht, hc, hi, idx_succ hlt le_rfl]
  omega

theorem Descends.roundStep16 (hph : s.phase = .rounds) (hlt : s.idx.toNat < s.cap.toNat)
    (hr : s.rnd.toNat < 8) : Descends s s.roundStep16 := by
  unfold State.roundStep16
  split
  next hl => exact .round hph hlt hl rfl rfl rfl rfl
  next => exact .lastRound hph hlt hr rfl rfl rfl

theorem Descends.roundStep32 (hph : s.phase = .rounds) (hlt : s.idx.toNat < s.cap.toNat)
    (hr : s.rnd.toNat < 8) (f : Word → Word) : Descends s (s.roundStep32 f) := by
  unfold State.roundStep32
  split
  next hl => exact .round hph hlt hl rfl rfl rfl rfl
  next => exact .lastRound hph hlt hr rfl rfl rfl

theorem Descends.roundStepNt (hph : s.phase = .rounds) (hlt : s.idx.toNat < s.cap.toNat)
    (hr : s.rnd.toNat < 8) : Descends s s.roundStepNt := by
  simp only [State.roundStepNt]
  split
  next hl => exact .round hph hlt hl rfl rfl rfl rfl
  next => exact .lastRound hph hlt hr rfl rfl rfl

theorem Descends.nextByte {fin : State} {use : Byte → State} (h : s.nextByte use fin = .next t)
    (hu : s.idx.toNat < s.cap.toNat → ∀ b, Descends s (use b)) (hf : fin.busy = false) :
    Descends s t := by
  rcases State.nextByte_next h with ⟨-, hlt, rfl⟩ | ⟨-, rfl⟩
  · exact hu hlt _
  · exact .of_idle hf

theorem Descends.nextByteNt (hph : s.phase = .bytes) (h : s.nextByteNt = .next t) : Descends s t := by
  unfold State.nextByteNt at h
  split at h
  · cases h; exact .of_idle rfl
  · obtain ⟨hlt, rfl⟩ := State.withByte_next h
    split
    · exact .of_idle rfl
    · exact .absorb hph hlt (by simp) (by simp) (by simp)

/-! ### The steps of a command, loop by loop -/

theorem tickOf_descends_of_start (hph : s.phase = .start) (h : tickOf i s = .next t) :
    Descends s t := by
  have hlt := loop_lt_stepsLeft_of_start hph
  cases i with
  | crc16Bit | crc32Ref | crc32Std =>
    simp only [tickOf, tickCrc16Bit, tickCrc32Ref, tickCrc32Std, hph] at h
    cases h
    exact .lengthChecked (.startBytes hlt rfl rfl rfl)
  | crc32Nt =>
    simp only [tickOf, tickCrc32Nt, hph] at h
    cases h
    exact .startBytes hlt rfl rfl rfl
  | crc16Tbl | crc32Tbl =>
    simp only [tickOf, tickCrc16Tbl, tickCrc32Tbl, hph] at h
    cases h
    refine .lengthChecked ?_
    split
    · exact .startBytes hlt rfl rfl rfl
    · exact .startFill hph rfl rfl rfl rfl
  | t16Build | t32Build =>
    simp only [tickOf, tickT16Build, tickT32Build, hph] at h
    cases h
    exact .startFill hph rfl rfl rfl rfl
  | rev8 | rev32 =>
    simp only [tickOf, tickRev8, tickRev32, hph] at h
    cases h
    exact .of_idle rfl

theorem tickOf_descends_of_fill (hph : s.phase = .fill) (hp : Position i s)
    (h : tickOf i s = .next t) : Descends s t := by
  rcases builds_of_position_fill hph hp with rfl | rfl | rfl | rfl
  · obtain ⟨-, hx, hr, -⟩ := (position_crc16Tbl_fill hph).1 hp
    simp only [tickOf, tickCrc16Tbl, hph] at h
    cases h
    exact .fillStep16 hph hx hr fun _ hc =>
      .startBytes (loop_lt_stepsLeft_of_fill hph hx hr) rfl hc rfl
  · obtain ⟨hx, hr, -⟩ := (position_t16Build_fill hph).1 hp
    simp only [tickOf, tickT16Build, hph] at h
    cases h
    exact .fillStep16 hph hx hr fun _ _ => .of_idle rfl
  · obtain ⟨-, hx, hr, -⟩ := (position_crc32Tbl_fill hph).1 hp
    simp only [tickOf, tickCrc32Tbl, hph] at h
    cases h
    exact .fillStep32 hph hx hr fun _ hc =>
      .startBytes (loop_lt_stepsLeft_of_fill hph hx hr) rfl hc rfl
  · obtain ⟨hx, hr, -⟩ := (position_t32Build_fill hph).1 hp
    simp only [tickOf, tickT32Build, hph] at h
    cases h
    exact .fillStep32 hph hx hr fun _ _ => .of_idle rfl

theorem tickOf_descends_of_bytes (hph : s.phase = .bytes) (h : tickOf i s = .next t) :
    Descends s t := by
  cases i with
  | crc16Bit | crc32Ref | crc32Std =>
    simp only [tickOf, tickCrc16Bit, tickCrc32Ref, tickCrc32Std, hph] at h
    exact .nextByte h (fun hlt _ => .absorb hph hlt rfl rfl rfl) rfl
  | crc16Tbl | crc32Tbl =>
    simp only [tickOf, tickCrc16Tbl, tickCrc32Tbl, hph] at h
    exact .nextByte h (fun hlt _ => .lookup hph hlt rfl rfl rfl) rfl
  | crc32Nt =>
    simp only [tickOf, tickCrc32Nt, hph] at h
    exact .nextByteNt hph h
  | t16Build | rev8 | t32Build | rev32 =>
    simp only [tickOf, tickT16Build, tickRev8, tickT32Build, tickRev32, hph] at h
    cases h

theorem InsideByte.idx_lt_cap (h : InsideByte s) : s.idx.toNat < s.cap.toNat := by
  obtain ⟨hc, hlt, -⟩ := h
  exact hlt.trans_le hc

theorem tickOf_descends_of_rounds (hph : s.phase = .rounds) (hp : Position i s)
    (h : tickOf i s = .next t) : Descends s t := by
  rcases bitEngine_of_position_rounds hph hp with rfl | rfl | rfl | rfl
  · obtain ⟨hin, -⟩ := (position_crc16Bit_rounds hph).1 hp
    simp only [tickOf, tickCrc16Bit, hph] at h
    cases h
    exact .roundStep16 hph hin.idx_lt_cap hin.rnd_lt
  · obtain ⟨hin, -⟩ := (position_crc32Ref_rounds hph).1 hp
    simp only [tickOf, tickCrc32Ref, hph] at h
    cases h
    exact .roundStep32 hph hin.idx_lt_cap hin.rnd_lt _
  · obtain ⟨hin, -⟩ := (position_crc32Std_rounds hph).1 hp
    simp only [tickOf, tickCrc32Std, hph] at h
    cases h
    exact .roundStep32 hph hin.idx_lt_cap hin.rnd_lt _
  · obtain ⟨hlt, -, hr, -⟩ := (position_crc32Nt_rounds hph).1 hp
    simp only [tickOf, tickCrc32Nt, hph] at h
    cases h
    exact .roundStepNt hph hlt hr

/-- Every sequencing step of a BUSY block of the invariant brings its command nearer to the end. -/
theorem tick_descends (hinv : Inv s) (hb : s.busy = true) (h : tick s = .next t) : Descends s t := by
  rcases tick_cases h with rfl | ⟨i, hd, h⟩
  · exact .of_idle rfl
  · obtain ⟨-, -, hp⟩ := (running_iff_of_ok hd).1 (hinv.2.2 hb)
    cases hph : s.phase with
    | start => exact tickOf_descends_of_start hph h
    | fill => exact tickOf_descends_of_fill hph hp h
    | bytes => exact tickOf_descends_of_bytes hph h
    | rounds => exact tickOf_descends_of_rounds hph hp h

/-- More steps than a running command has left bring it to its end. -/
theorem tickRun_ends {n : Nat} (hinv : Inv s) (h : s.busy = true → s.stepsLeft < n) :
    ∃ t, tickRun n s = .next t ∧ t.busy = false := by
  induction n generalizing s with
  | zero => exact ⟨s, rfl, Bool.eq_false_iff.2 fun hb => Nat.not_lt_zero _ (h hb)⟩
  | succ n ih =>
    cases hb : s.busy with
    | false => exact ⟨s, tickRun_of_idle hb _, hb⟩
    | true =>
      obtain ⟨t, ht⟩ := tick_isNext hinv hb
      have hdesc := tick_descends hinv hb ht
      rw [tickRun_succ hb ht]
      exact ih (tick_inv hinv hb ht) fun hbt => (hdesc hbt).trans_le (Nat.le_of_lt_succ (h hb))

end

/-- Settles O60: the bound is above the steps left in any state. -/
theorem runningCommandAlwaysEnds : Obligations.RunningCommandAlwaysEnds := fun s hinv =>
  tickRun_ends hinv fun _ => stepsLeft_lt_tickBound s

end Sys2Proof.Machine
end

section
namespace Sys2Proof.Machine

/-! ### Runs of sequencing steps -/

section
variable {s t a b : State} {α : Type}

theorem tickRun_one (hb : s.busy = true) (h : tick s = .next t) : tickRun 1 s = .next t :=
  tickRun_succ hb h 0

theorem tickRun_trans {m n : Nat} (h : tickRun m s = .next a) (h' : tickRun n a = .next t) :
    tickRun (m + n) s = .next t :=
  (tickRun_add h n).trans h'

/-- A loop whose passes take `m` steps each, through the states of a family. -/
theorem tickRun_loop {g : Nat → State} {m n : Nat}
    (h : ∀ k, k < n → tickRun m (g k) = .next (g (k + 1))) : tickRun (m * n) (g 0) = .next (g n) := by
  induction n with
  | zero => rfl
  | succ n ih => exact tickRun_trans (ih fun k hk => h k (hk.trans n.lt_succ_self)) (h n n.lt_succ_self)

/-- A command is its check, its loop, and one step more to end it if the loop has not. -/
theorem tickRun_check_loop_end {n : Nat} (hb : s.busy = true) (hcheck : tick s = .next a)
    (hloop : tickRun n a = .next b) (hend : tickRun 1 b = .next t) : tickRun (n + 2) s = .next t :=
  (tickRun_succ hb hcheck (n + 1)).trans (tickRun_trans hloop hend)

/-- A command that has ended in its check takes no more steps. -/
theorem tickRun_check_idle {n : Nat} (hb : s.busy = true) (hcheck : tick s = .next t)
    (ht : t.busy = false) : tickRun (n + 2) s = .next t :=
  (tickRun_succ hb hcheck (n + 1)).trans (tickRun_of_idle ht _)

/-! ### The loops, for any register -/

/-- A loop over the first `n` message bytes, `m` steps each, that takes the register from `r` to `g r b`. -/
theorem tickRun_msgBytes {put : Nat → α → State} {g : α → Byte → α} {m n : Nat}
    (h : ∀ k r, k < n → tickRun m (put k r) = .next (put (k + 1) (g r (s.msgByte k)))) (x : α) :
    tickRun (m * n) (put 0 x) = .next (put n ((s.msgBytes n).foldl g x)) :=
  tickRun_loop (g := fun k => put k ((s.msgBytes k).foldl g x)) fun k hk => by
    rw [h k _ hk, State.foldl_msgBytes_succ]

/-- The loop of a table engine: one step `g` a byte. `put r j` holds the register `r` with IDX = `j`. -/
theorem tickRun_lookups {put : α → Word → State} {g : α → Byte → α} {n : Nat}
    (hb : ∀ r j, (put r j).busy = true)
    (h : ∀ r j, j.toNat < n → tick (put r j) = .next (put (g r (s.msgByte j.toNat)) (j + 1)))
    (hn : n < 2 ^ 32) (x : α) :
    tickRun n (put x 0) = .next (put ((s.msgBytes n).foldl g x) (BitVec.ofNat 32 n)) := by
  have hloop := tickRun_msgBytes (s := s) (m := 1) (n := n) (g := g)
    (put := fun k r => put r (BitVec.ofNat 32 k)) (fun k r hk => by
      have hk' : (BitVec.ofNat 32 k).toNat = k := Nat.mod_eq_of_lt (hk.trans hn)
      rw [tickRun_one (hb _ _) (h _ _ (hk'.trans_lt hk)), hk', BitVec.ofNat_add]
      rfl) x
  rwa [Nat.one_mul] at hloop

/-- The rounds before the eighth; `put r k` holds the register `r` with RND = `k`. -/
theorem tickRun_sevenRounds {put : α → BitVec 4 → State} {f : α → α}
    (hb : ∀ r k, (put r k).busy = true)
    (h : ∀ r k, k.toNat + 1 < 8 → tick (put r k) = .next (put (f r) (k + 1))) (r : α) :
    tickRun 7 (put r 0) = .next (put (f^[7] r) 7) :=
  tickRun_loop (g := fun k => put (f^[k] r) (BitVec.ofNat 4 k)) (m := 1) (n := 7) fun k hk => by
    have hk' : (BitVec.ofNat 4 k).toNat = k := Nat.mod_eq_of_lt (by omega)
    rw [tickRun_one (hb _ _) (h _ _ (by omega)), Function.iterate_succ_apply', BitVec.ofNat_add]
    rfl

/-- The steps of a bit engine over the first `n` message bytes of `s`: an absorb `ab` and eight rounds `f`
a byte (10_state.md R27 (a), (b)). `put r j k p` is `s` with the register `r`, IDX = `j` and RND = `k` in
the loop `p`. -/
structure BitLoop (s : State) (n : Nat) (put : α → Word → BitVec 4 → Phase → State) (f : α → α)
    (ab : α → Byte → α) : Prop where
  busy : ∀ r j k p, (put r j k p).busy = true
  absorb : ∀ r j k, j.toNat < n →
    tick (put r j k .bytes) = .next (put (ab r (s.msgByte j.toNat)) j 0 .rounds)
  round : ∀ r j k, k.toNat + 1 < 8 → tick (put r j k .rounds) = .next (put (f r) j (k + 1) .rounds)
  lastRound : ∀ r j k, ¬k.toNat + 1 < 8 →
    tick (put r j k .rounds) = .next (put (f r) (j + 1) (k + 1) .bytes)

section
variable {n : Nat} {put : α → Word → BitVec 4 → Phase → State} {f : α → α} {ab : α → Byte → α}

theorem BitLoop.byte (h : BitLoop s n put f ab) {j : Word} (hj : j.toNat < n) (r : α) (k : BitVec 4) :
    tickRun 9 (put r j k .bytes) =
      .next (put (f^[8] (ab r (s.msgByte j.toNat))) (j + 1) 8 .bytes) := by
  have hseven := tickRun_sevenRounds (put := fun r k => put r j k .rounds) (fun r k => h.busy r j k _)
    (fun r k => h.round r j k) (ab r (s.msgByte j.toNat))
  have heighth := tickRun_one (h.busy _ _ _ _) (h.lastRound (f^[7] (ab r (s.msgByte j.toNat))) j 7
    (by decide))
  rw [← Function.iterate_succ_apply' f] at heighth
  exact tickRun_trans (tickRun_one (h.busy _ _ _ _) (h.absorb r j k hj)) (tickRun_trans hseven heighth)

/-- The whole loop. -/
theorem BitLoop.run (h : BitLoop s n put f ab) (hn : n < 2 ^ 32) (x : α) (k : BitVec 4) :
    tickRun (9 * n) (put x 0 k .bytes) =
      .next (put (bitReg f ab x (s.msgBytes n)) (BitVec.ofNat 32 n) (rndAfter n k) .bytes) :=
  tickRun_msgBytes (put := fun m r => put r (BitVec.ofNat 32 m) (rndAfter m k) .bytes)
    (g := fun r b => f^[8] (ab r b)) (fun m r hm => by
      have hm' : (BitVec.ofNat 32 m).toNat = m := Nat.mod_eq_of_lt (hm.trans hn)
      rw [h.byte (hm'.trans_lt hm), hm', BitVec.ofNat_add]
      rfl) x

end

/-- The table `t` after its first `j` entries were written, each with its value. -/
def writeEntries (e : Nat → α) (t : Vector α 256) (j : Nat) : Vector α 256 :=
  match j with
  | 0 => t
  | j + 1 => (writeEntries e t j).setIfInBounds j (e j)

theorem writeEntries_succ (e : Nat → α) (t : Vector α 256) (j : Nat) :
    writeEntries e t (j + 1) = (writeEntries e t j).setIfInBounds j (e j) := rfl

theorem writeEntries_getElem {e : Nat → α} {t : Vector α 256} {i j : Nat} (hi : i < 256) (h : i < j) :
    (writeEntries e t j)[i] = e i := by
  induction j with
  | zero => exact absurd h (Nat.not_lt_zero i)
  | succ j ih => exact getElem_write_of_value rfl hi fun hne => ih (by omega)

theorem writeEntries_all (e : Nat → α) (t : Vector α 256) :
    writeEntries e t 256 = Vector.ofFn fun i => e i :=
  Vector.ext fun i hi => by rw [writeEntries_getElem hi hi, Vector.getElem_ofFn]

/-- The steps of a table build (10_state.md R27 (c)): eight rounds `f` from the seed of each entry, the
eighth of which writes the entry. `put r k j t` holds the register `r`, RND = `k`, TIDX = `j` and the table
`t`; `fin`, of the same four, is the state after the last step. -/
structure FillLoop (put fin : α → BitVec 4 → BitVec 9 → Vector α 256 → State) (f : α → α)
    (seed : BitVec 9 → α) : Prop where
  busy : ∀ r k j t, (put r k j t).busy = true
  round : ∀ r k j t, k.toNat + 1 < 8 → tick (put r k j t) = .next (put (f r) (k + 1) j t)
  entry : ∀ r k j t, ¬k.toNat + 1 < 8 → j.toNat + 1 < 256 →
    tick (put r k j t) = .next (put (seed (j + 1)) 0 (j + 1) (t.setIfInBounds j.toNat (f r)))
  last : ∀ r k j t, ¬k.toNat + 1 < 8 → ¬j.toNat + 1 < 256 →
    tick (put r k j t) = .next (fin (f r) (k + 1) (j + 1) (t.setIfInBounds j.toNat (f r)))

section
variable {put fin : α → BitVec 4 → BitVec 9 → Vector α 256 → State} {f : α → α} {seed : BitVec 9 → α}

/-- Eight rounds of an entry, the last of which leads to `u`. -/
theorem FillLoop.eightRounds (h : FillLoop put fin f seed) {r : α} {j : BitVec 9} {t : Vector α 256}
    {u : State} (hlast : tick (put (f^[7] r) 7 j t) = .next u) : tickRun 8 (put r 0 j t) = .next u :=
  tickRun_trans (tickRun_sevenRounds (put := fun r k => put r k j t) (fun r k => h.busy r k j t)
    (fun r k => h.round r k j t) r) (tickRun_one (h.busy _ _ _ _) hlast)

/-- The whole build, from any table. -/
theorem FillLoop.run (h : FillLoop put fin f seed) {e : Nat → α}
    (he : ∀ j, e j = f^[8] (seed (BitVec.ofNat 9 j))) (t : Vector α 256) :
    tickRun (256 * 8) (put (seed 0) 0 0 t) = .next (fin (e 255) 8 256 (Vector.ofFn fun i => e i)) := by
  have hval (j : Nat) : f (f^[7] (seed (BitVec.ofNat 9 j))) = e j := by
    rw [he, ← Function.iterate_succ_apply' f]
  have hentries : tickRun (8 * 255) (put (seed 0) 0 0 t) =
      .next (put (seed (BitVec.ofNat 9 255)) 0 (BitVec.ofNat 9 255) (writeEntries e t 255)) :=
    tickRun_loop (g := fun j => put (seed (BitVec.ofNat 9 j)) 0 (BitVec.ofNat 9 j) (writeEntries e t j))
      fun j hj => by
        have hj' : (BitVec.ofNat 9 j).toNat = j := Nat.mod_eq_of_lt (by omega)
        rw [h.eightRounds (h.entry _ 7 _ _ (by decide) (by omega)), hj', hval, BitVec.ofNat_add]
        rfl
  have hlast : tickRun 8
      (put (seed (BitVec.ofNat 9 255)) 0 (BitVec.ofNat 9 255) (writeEntries e t 255)) =
      .next (fin (e 255) 8 256 (Vector.ofFn fun i => e i)) := by
    rw [h.eightRounds (h.last _ 7 _ _ (by decide) (by decide)), hval, BitVec.toNat_ofNat,
      ← writeEntries_succ, writeEntries_all]
    rfl
  exact (tickRun_trans hentries hlast :)

end
end
end Sys2Proof.Machine
end

section
namespace Sys2Proof.Machine

/-! ### The steps between two bytes -/

section
variable {s : State}

theorem State.nextByte_of_lt (h : s.idx.toNat < s.byteCount) (hc : s.byteCount ≤ s.cap.toNat)
    (use : Byte → State) (fin : State) : s.nextByte use fin = .next (use (s.msgByte s.idx.toNat)) := by
  rw [State.nextByte, if_pos h, State.withByte_of_lt (h.trans_le hc)]

theorem State.nextByte_of_idx_eq (h : s.idx = s.runLen) (use : Byte → State) (fin : State) :
    s.nextByte use fin = .next fin := by
  rw [State.nextByte, h, State.byteCount, if_neg (lt_irrefl _)]

theorem State.nextByteNt_of_ne (h : s.idx.toNat < s.cap.toNat) (hb : s.msgByte s.idx.toNat ≠ 0#8) :
    s.nextByteNt =
      .next ((s.workNt (s.r32, place (s.msgByte s.idx.toNat)) s.idx 0).setPhase .rounds) := by
  rw [State.nextByteNt, if_neg (Nat.not_le.2 h), State.withByte_of_lt h, if_neg hb]

theorem State.nextByteNt_of_eq (h : s.idx.toNat < s.cap.toNat) (hb : s.msgByte s.idx.toNat = 0#8) :
    s.nextByteNt = .next s.finishStandard := by
  rw [State.nextByteNt, if_neg (Nat.not_le.2 h), State.withByte_of_lt h, if_pos hb]

theorem State.nextByteNt_of_cap (h : s.cap.toNat ≤ s.idx.toNat) :
    s.nextByteNt = .next (s.raiseFault .missingTerminator) := if_pos h

end

/-! ### The loop of each command -/

/-- A T16 build in work: the register, RND, TIDX and the table as given. -/
def State.filling16 (s : State) (r : Half) (k : BitVec 4) (j : BitVec 9) (t : Table16) : State :=
  ({ s with t16 := t }.build16 r k j).setPhase .fill

/-- The same of a T32 build. -/
def State.filling32 (s : State) (r : Word) (k : BitVec 4) (j : BitVec 9) (t : Table32) : State :=
  ({ s with t32 := t }.build32 r k j).setPhase .fill

theorem State.byteCount_lt (s : State) : s.byteCount < 2 ^ 32 := s.runLen.isLt

theorem State.ofNat_byteCount (s : State) : BitVec.ofNat 32 s.byteCount = s.runLen := by
  rw [State.byteCount, BitVec.ofNat_toNat, BitVec.setWidth_eq]

section
variable {s : State} (hb : s.busy = true)
include hb

theorem bitLoop16 (hd : decode s.runCmd = .ok .crc16Bit) (hc : s.byteCount ≤ s.cap.toNat) :
    BitLoop s s.byteCount (fun r j k p => (s.work16 r j k).setPhase p) round16 absorb16 where
  busy _ _ _ _ := hb
  absorb r j k hj := (tick_of_ok (s := (s.work16 r j k).setPhase .bytes) hd).trans
    (State.nextByte_of_lt (s := (s.work16 r j k).setPhase .bytes) hj hc _ _)
  round r j k hk := (tick_of_ok (s := (s.work16 r j k).setPhase .rounds) hd).trans
    (congrArg Host.Outcome.next (if_pos hk))
  lastRound r j k hk := (tick_of_ok (s := (s.work16 r j k).setPhase .rounds) hd).trans
    (congrArg Host.Outcome.next (if_neg hk))

/-- The two length-bounded CRC-32 bit engines, which differ in the round `f`, the absorb `ab` and the end. -/
theorem bitLoop32 {f : Word → Word} {ab : Word → Byte → Word} {fin : State → State}
    (hc : s.byteCount ≤ s.cap.toNat)
    (hbytes : ∀ u : State, u.runCmd = s.runCmd → u.phase = .bytes → tick u =
      u.nextByte (fun b => (u.work32 (ab u.r32 b) u.idx 0).setPhase .rounds) (fin u))
    (hrounds : ∀ u : State, u.runCmd = s.runCmd → u.phase = .rounds → tick u = .next (u.roundStep32 f)) :
    BitLoop s s.byteCount (fun r j k p => (s.work32 r j k).setPhase p) f ab where
  busy _ _ _ _ := hb
  absorb r j k hj := (hbytes ((s.work32 r j k).setPhase .bytes) rfl rfl).trans
    (State.nextByte_of_lt (s := (s.work32 r j k).setPhase .bytes) hj hc _ _)
  round r j k hk := (hrounds ((s.work32 r j k).setPhase .rounds) rfl rfl).trans (congrArg _ (if_pos hk))
  lastRound r j k hk :=
    (hrounds ((s.work32 r j k).setPhase .rounds) rfl rfl).trans (congrArg _ (if_neg hk))

theorem bitLoopNt (hd : decode s.runCmd = .ok .crc32Nt) {n : Nat} (hn : n ≤ s.cap.toNat)
    (h0 : NoNulBelow s n) :
    BitLoop s n (fun q j k p => (s.workNt q j k).setPhase p) roundnt absorbNt where
  busy _ _ _ _ := hb
  absorb q j k hj := (tick_of_ok (s := (s.workNt q j k).setPhase .bytes) hd).trans
    (State.nextByteNt_of_ne (s := (s.workNt q j k).setPhase .bytes) (hj.trans_le hn) (h0 _ hj))
  round q j k hk := (tick_of_ok (s := (s.workNt q j k).setPhase .rounds) hd).trans
    (congrArg Host.Outcome.next (if_pos hk))
  lastRound q j k hk := (tick_of_ok (s := (s.workNt q j k).setPhase .rounds) hd).trans
    (congrArg Host.Outcome.next (if_neg hk))

theorem fillLoop16 {done : State → State}
    (ht : ∀ u : State, u.runCmd = s.runCmd → u.phase = .fill → tick u = .next (u.fillStep16 done)) :
    FillLoop s.filling16 (fun r k j t => done (s.filling16 r k j t).valid16) round16 seed16 where
  busy _ _ _ _ := hb
  round r k j t hk := (ht (s.filling16 r k j t) rfl rfl).trans (congrArg _ (if_pos hk))
  entry r k j t hk hj := (ht (s.filling16 r k j t) rfl rfl).trans
    (congrArg _ ((if_neg hk).trans (if_pos hj)))
  last r k j t hk hj := (ht (s.filling16 r k j t) rfl rfl).trans
    (congrArg _ ((if_neg hk).trans (if_neg hj)))

theorem fillLoop32 {done : State → State}
    (ht : ∀ u : State, u.runCmd = s.runCmd → u.phase = .fill → tick u = .next (u.fillStep32 done)) :
    FillLoop s.filling32 (fun r k j t => done (s.filling32 r k j t).valid32) round32s seed32 where
  busy _ _ _ _ := hb
  round r k j t hk := (ht (s.filling32 r k j t) rfl rfl).trans (congrArg _ (if_pos hk))
  entry r k j t hk hj := (ht (s.filling32 r k j t) rfl rfl).trans
    (congrArg _ ((if_neg hk).trans (if_pos hj)))
  last r k j t hk hj := (ht (s.filling32 r k j t) rfl rfl).trans
    (congrArg _ ((if_neg hk).trans (if_neg hj)))

/-! ### From the start of a loop to its end -/

theorem tickRun_runBit16 (hd : decode s.runCmd = .ok .crc16Bit) (hc : s.byteCount ≤ s.cap.toNat) :
    tickRun (9 * s.byteCount) s.startBytes16 = .next (s.runBit16.setPhase .bytes) := by
  have h := (bitLoop16 hb hd hc).run s.byteCount_lt init16 s.rnd
  rwa [s.ofNat_byteCount] at h

theorem tickRun_runRef32 (hd : decode s.runCmd = .ok .crc32Ref) (hc : s.byteCount ≤ s.cap.toNat) :
    tickRun (9 * s.byteCount) s.startBytes32 = .next (s.runRef32.setPhase .bytes) := by
  have h := (bitLoop32 (fin := State.finishReflected) (f := round32r) (ab := absorb32r) hb hc
    (fun u hu hph => by rw [tick_of_ok (hu ▸ hd), tickOf, tickCrc32Ref, hph])
    fun u hu hph => by rw [tick_of_ok (hu ▸ hd), tickOf, tickCrc32Ref, hph]).run
      s.byteCount_lt init32 s.rnd
  rwa [s.ofNat_byteCount] at h

theorem tickRun_runStd32 (hd : decode s.runCmd = .ok .crc32Std) (hc : s.byteCount ≤ s.cap.toNat) :
    tickRun (9 * s.byteCount) s.startBytes32 = .next (s.runStd32.setPhase .bytes) := by
  have h := (bitLoop32 (fin := State.finishStandard) (f := round32s) (ab := absorb32s) hb hc
    (fun u hu hph => by rw [tick_of_ok (hu ▸ hd), tickOf, tickCrc32Std, hph])
    fun u hu hph => by rw [tick_of_ok (hu ▸ hd), tickOf, tickCrc32Std, hph]).run
      s.byteCount_lt init32 s.rnd
  rwa [s.ofNat_byteCount] at h

/-- CRC32.NT over `n` bytes that are not 0x00. -/
theorem tickRun_runNt (hd : decode s.runCmd = .ok .crc32Nt) {n : Nat} (hn : n ≤ s.cap.toNat)
    (h0 : NoNulBelow s n) :
    tickRun (9 * n) s.startBytes32 =
      .next ((s.workNt (crc32NtReg s.b32 (s.msgBytes n)) (BitVec.ofNat 32 n)
        (rndAfter n s.rnd)).setPhase .bytes) :=
  (bitLoopNt hb hd hn h0).run (hn.trans_lt s.cap.isLt) (init32, s.b32) s.rnd

theorem tickRun_runTbl16 (hd : decode s.runCmd = .ok .crc16Tbl) (hc : s.byteCount ≤ s.cap.toNat) :
    tickRun s.byteCount s.startBytes16 = .next (s.runTbl16.setPhase .bytes) := by
  have h := tickRun_lookups (put := fun r j => (s.work16 r j s.rnd).setPhase .bytes)
    (g := step16t s.t16) (fun _ _ => hb) (fun r j hj =>
      (tick_of_ok (s := (s.work16 r j s.rnd).setPhase .bytes) hd).trans
        (State.nextByte_of_lt (s := (s.work16 r j s.rnd).setPhase .bytes) hj hc _ _))
    s.byteCount_lt init16
  rwa [s.ofNat_byteCount] at h

theorem tickRun_runTbl32 (hd : decode s.runCmd = .ok .crc32Tbl) (hc : s.byteCount ≤ s.cap.toNat) :
    tickRun s.byteCount s.startBytes32 = .next (s.runTbl32.setPhase .bytes) := by
  have h := tickRun_lookups (put := fun r j => (s.work32 r j s.rnd).setPhase .bytes)
    (g := step32t s.t32) (fun _ _ => hb) (fun r j hj =>
      (tick_of_ok (s := (s.work32 r j s.rnd).setPhase .bytes) hd).trans
        (State.nextByte_of_lt (s := (s.work32 r j s.rnd).setPhase .bytes) hj hc _ _))
    s.byteCount_lt init32
  rwa [s.ofNat_byteCount] at h

/-- A T16 build, to whatever follows its last step. -/
theorem tickRun_fullBuild16 {done : State → State}
    (ht : ∀ u : State, u.runCmd = s.runCmd → u.phase = .fill → tick u = .next (u.fillStep16 done)) :
    tickRun (256 * 8) s.startFill16 = .next (done (s.fullBuild16.setPhase .fill)) :=
  (fillLoop16 hb ht).run (e := entry16) (fun _ => rfl) s.t16

theorem tickRun_fullBuild32 {done : State → State}
    (ht : ∀ u : State, u.runCmd = s.runCmd → u.phase = .fill → tick u = .next (u.fillStep32 done)) :
    tickRun (256 * 8) s.startFill32 = .next (done (s.fullBuild32.setPhase .fill)) :=
  (fillLoop32 hb ht).run (e := entry32) (fun _ => rfl) s.t32

/-- The lazy build of CRC16.TBL takes its rounds only if the table is not valid (40_crc16.md R95). -/
theorem tickRun_lazyBuild16 (hd : decode s.runCmd = .ok .crc16Tbl) :
    tickRun (if s.t16v then 0 else 256 * 8) (if s.t16v then s.startBytes16 else s.startFill16) =
      .next s.lazyBuild16.startBytes16 := by
  unfold State.lazyBuild16
  split
  · rfl
  · exact tickRun_fullBuild16 (done := State.startBytes16) hb fun u hu hph => by
      rw [tick_of_ok (hu ▸ hd), tickOf, tickCrc16Tbl, hph]

theorem tickRun_lazyBuild32 (hd : decode s.runCmd = .ok .crc32Tbl) :
    tickRun (if s.t32v then 0 else 256 * 8) (if s.t32v then s.startBytes32 else s.startFill32) =
      .next s.lazyBuild32.startBytes32 := by
  unfold State.lazyBuild32
  split
  · rfl
  · exact tickRun_fullBuild32 (done := State.startBytes32) hb fun u hu hph => by
      rw [tick_of_ok (hu ▸ hd), tickOf, tickCrc32Tbl, hph]

end

/-! ### Each command, from acceptance to its end -/

section
variable {i : Instr} {s : State}

/-- The first step of a length-bounded command is the capacity check. -/
theorem tickOf_of_start (hph : s.phase = .start) (hi : Instr.lengthBounded i = true) :
    ∃ body, tickOf i s = .next (lengthChecked s body) := by
  cases i with
  | crc16Bit => exact ⟨_, by rw [tickOf, tickCrc16Bit, hph]⟩
  | crc16Tbl => exact ⟨_, by rw [tickOf, tickCrc16Tbl, hph]⟩
  | crc32Ref => exact ⟨_, by rw [tickOf, tickCrc32Ref, hph]⟩
  | crc32Tbl => exact ⟨_, by rw [tickOf, tickCrc32Tbl, hph]⟩
  | crc32Std => exact ⟨_, by rw [tickOf, tickCrc32Std, hph]⟩
  | t16Build | rev8 | t32Build | rev32 | crc32Nt => cases hi

/-- A length fault ends the command in its first step (70_reset_and_hazards.md R194: no work). -/
theorem tickRun_lengthFault (hd : decode s.cmd = .ok i) (hi : Instr.lengthBounded i = true)
    (hl : s.cap.toNat < s.len.toNat) (n : Nat) :
    tickRun (n + 2) s.accept = .next (s.accept.raiseFault .lengthExceedsBuffer) := by
  obtain ⟨body, hbody⟩ := tickOf_of_start (s := s.accept) rfl hi
  rw [lengthChecked_of_lt hl] at hbody
  exact tickRun_check_idle rfl ((tick_of_ok (s := s.accept) hd).trans hbody) rfl

/-- A length-bounded command whose LEN is at most CAP: the loop from what follows its check, and the step
that finds IDX = LEN. -/
theorem tickRun_checked {n : Nat} {a : State → State} {b fin : State} {use : Byte → State}
    (hd : decode s.cmd = .ok i) (hl : s.len.toNat ≤ s.cap.toNat)
    (hcheck : tickOf i s.accept = .next (lengthChecked s.accept a))
    (hloop : tickRun n (a s.accept) = .next b) (hb : b.busy = true) (hcmd : b.runCmd = s.cmd)
    (hidx : b.idx = b.runLen) (hend : tickOf i b = b.nextByte use fin) :
    tickRun (n + 2) s.accept = .next fin := by
  rw [lengthChecked_of_le hl] at hcheck
  refine tickRun_check_loop_end rfl ((tick_of_ok (s := s.accept) hd).trans hcheck) hloop ?_
  exact tickRun_one hb ((tick_of_ok (hcmd ▸ hd)).trans (hend.trans (State.nextByte_of_idx_eq hidx _ _)))

theorem tickRun_crc16Bit (hd : decode s.cmd = .ok .crc16Bit) (hl : s.len.toNat ≤ s.cap.toNat) :
    tickRun (9 * s.len.toNat + 2) s.accept = .next s.accept.runBit16.finish16 :=
  tickRun_checked hd hl rfl (tickRun_runBit16 (s := s.accept) rfl hd hl) rfl rfl rfl rfl

theorem tickRun_crc32Ref (hd : decode s.cmd = .ok .crc32Ref) (hl : s.len.toNat ≤ s.cap.toNat) :
    tickRun (9 * s.len.toNat + 2) s.accept = .next s.accept.runRef32.finishReflected :=
  tickRun_checked hd hl rfl (tickRun_runRef32 (s := s.accept) rfl hd hl) rfl rfl rfl rfl

theorem tickRun_crc32Std (hd : decode s.cmd = .ok .crc32Std) (hl : s.len.toNat ≤ s.cap.toNat) :
    tickRun (9 * s.len.toNat + 2) s.accept = .next s.accept.runStd32.finishStandard :=
  tickRun_checked hd hl rfl (tickRun_runStd32 (s := s.accept) rfl hd hl) rfl rfl rfl rfl

theorem tickRun_crc16Tbl (hd : decode s.cmd = .ok .crc16Tbl) (hl : s.len.toNat ≤ s.cap.toNat) :
    tickRun (s.len.toNat + (if s.t16v then 0 else 256 * 8) + 2) s.accept =
      .next s.accept.lazyBuild16.runTbl16.finish16 := by
  have hlookups := tickRun_runTbl16 (s := s.accept.lazyBuild16) (by simp) (by simpa using hd)
    (by simpa using hl)
  have hloop := tickRun_trans (tickRun_lazyBuild16 (s := s.accept) rfl hd) hlookups
  rw [State.lazyBuild16_byteCount] at hloop
  rw [Nat.add_comm s.len.toNat]
  exact tickRun_checked hd hl rfl hloop (by simp) (by simp) (by simp) rfl

theorem tickRun_crc32Tbl (hd : decode s.cmd = .ok .crc32Tbl) (hl : s.len.toNat ≤ s.cap.toNat) :
    tickRun (s.len.toNat + (if s.t32v then 0 else 256 * 8) + 2) s.accept =
      .next s.accept.lazyBuild32.runTbl32.finishStandard := by
  have hlookups := tickRun_runTbl32 (s := s.accept.lazyBuild32) (by simp) (by simpa using hd)
    (by simpa using hl)
  have hloop := tickRun_trans (tickRun_lazyBuild32 (s := s.accept) rfl hd) hlookups
  rw [State.lazyBuild32_byteCount] at hloop
  rw [Nat.add_comm s.len.toNat]
  exact tickRun_checked hd hl rfl hloop (by simp) (by simp) (by simp) rfl

/-- An explicit build ends in the last step of its loop (log entry 5). -/
theorem tickRun_t16Build (hd : decode s.cmd = .ok .t16Build) :
    tickRun (256 * 8 + 2) s.accept = .next s.accept.fullBuild16.completeSilent :=
  tickRun_check_loop_end rfl (tick_of_ok (s := s.accept) hd)
    (tickRun_fullBuild16 (s := s.accept) (done := State.completeSilent) rfl fun u hu hph => by
      rw [tick_of_ok (i := .t16Build) (hu ▸ hd), tickOf, tickT16Build, hph])
    (tickRun_of_idle rfl 1)

theorem tickRun_t32Build (hd : decode s.cmd = .ok .t32Build) :
    tickRun (256 * 8 + 2) s.accept = .next s.accept.fullBuild32.completeSilent :=
  tickRun_check_loop_end rfl (tick_of_ok (s := s.accept) hd)
    (tickRun_fullBuild32 (s := s.accept) (done := State.completeSilent) rfl fun u hu hph => by
      rw [tick_of_ok (i := .t32Build) (hu ▸ hd), tickOf, tickT32Build, hph])
    (tickRun_of_idle rfl 1)

/-- A CRC32.NT that stands before byte `n`, none of the bytes before it 0x00, takes one step more. -/
theorem tickRun_crc32Nt {n : Nat} {t : State} (hd : decode s.cmd = .ok .crc32Nt) (hn : n ≤ s.cap.toNat)
    (h0 : NoNulBelow s n)
    (hend : ((s.accept.workNt (crc32NtReg s.b32 (s.msgBytes n)) (BitVec.ofNat 32 n)
      (rndAfter n s.rnd)).setPhase .bytes).nextByteNt = .next t) :
    tickRun (9 * n + 2) s.accept = .next t :=
  tickRun_check_loop_end rfl (tick_of_ok (s := s.accept) hd)
    (tickRun_runNt (s := s.accept) rfl hd hn h0)
    (tickRun_one rfl ((tick_of_ok (i := .crc32Nt) hd).trans hend))

theorem tickRun_crc32Nt_of_noNul (hd : decode s.cmd = .ok .crc32Nt) (h0 : NoNulBelow s s.cap.toNat) :
    tickRun (9 * s.cap.toNat + 2) s.accept = .next (s.accept.raiseFault .missingTerminator) :=
  tickRun_crc32Nt hd le_rfl h0 (State.nextByteNt_of_cap (by simp))

theorem tickRun_crc32Nt_of_firstNul {z : Nat} (hd : decode s.cmd = .ok .crc32Nt) (hz : FirstNul s z) :
    tickRun (9 * z + 2) s.accept =
      .next ((s.accept.workNt (crc32NtReg s.b32 (s.msgBytes z)) (BitVec.ofNat 32 z)
        (rndAfter z s.rnd)).finishStandard) := by
  obtain ⟨hlt, hnul, h0⟩ := hz
  have hz' : (BitVec.ofNat 32 z).toNat = z := Nat.mod_eq_of_lt (hlt.trans s.cap.isLt)
  exact tickRun_crc32Nt hd hlt.le h0
    (State.nextByteNt_of_eq (hz'.trans_lt hlt) (hnul ▸ congrArg s.msgByte hz'))

end

/-- Settles O59, end by end: each command runs its check, its loops and its last step. -/
theorem sequencingReachesTheTransaction : Obligations.SequencingReachesTheTransaction := by
  refine ⟨fun s i hd => ?_, fun s e hd => tickRun_one rfl (tick_of_error (s := s.accept) hd)⟩
  obtain ⟨t, ht, hend⟩ := exec_commandEnd i s
  rw [ht]
  cases hend with
  | lengthFault hi hl => exact tickRun_lengthFault hd hi hl _
  | terminatorFault hn =>
    simp only [workSteps, State.scanNul_of_noNul hn]
    exact tickRun_crc32Nt_of_noNul hd hn
  | crc16Bit hl =>
    simp only [workSteps, if_pos hl]
    exact tickRun_crc16Bit hd hl
  | crc16Tbl hl =>
    simp only [workSteps, if_pos hl]
    exact tickRun_crc16Tbl hd hl
  | t16Build => exact tickRun_t16Build hd
  | rev8 => exact tickRun_check_idle rfl (tick_of_ok (s := s.accept) hd) rfl
  | crc32Ref hl =>
    simp only [workSteps, if_pos hl]
    exact tickRun_crc32Ref hd hl
  | crc32Tbl hl =>
    simp only [workSteps, if_pos hl]
    exact tickRun_crc32Tbl hd hl
  | t32Build => exact tickRun_t32Build hd
  | rev32 => exact tickRun_check_idle rfl (tick_of_ok (s := s.accept) hd) rfl
  | crc32Std hl =>
    simp only [workSteps, if_pos hl]
    exact tickRun_crc32Std hd hl
  | crc32Nt hz =>
    simp only [workSteps, State.scanNul_of_firstNul hz, State.length_msgBytes]
    exact tickRun_crc32Nt_of_firstNul hd hz

end Sys2Proof.Machine
end
